-- ==== Sys2Proof/Word.lean ====
section
/-! DEFINITION. The two word types of the machine (00_scope.md R5): a bus datum and a register are
8 bits, an address and PC are 16 bits. -/

namespace Sys2Proof

/-- A bus datum, an 8-bit register, a status byte (R5). -/
abbrev Byte := BitVec 8

/-- A bus address, PC, a vector (R5). -/
abbrev Word := BitVec 16

end Sys2Proof
end

