-- ==== Sys2Proof/Config.lean ====
section
/-! DEFINITION. The implementation parameters of 00_scope.md R6, as the fields of two plain records that State
holds (R14: they are configuration, which no step changes), with the values R6 gives them; and the free values:
opaque constants with no body, so that no proof can know what they are. BRK_HALT, the handler table and the
memory images are host-writable and stand in State by themselves. -/

namespace Sys2Proof.Config

/-- One value of a decimal function: on operands `a`, `m` and carry `c` it gives `r` and carry `cOut`. -/
structure DecCase where
  a : Byte
  m : Byte
  c : Bool
  r : Byte
  cOut : Bool
  deriving DecidableEq, Repr

/-- The parameters of the core (R6; log 17). -/
structure CoreParams where
  /-- `UNIMPLEMENTED_OPCODES`: which of $CB and $DB halt; "meant to hold no other byte" (R112, R292) -/
  unimplementedOpcodes : List Byte
  /-- `VEC_NMI` (R58) -/
  vecNmi : Word
  /-- `VEC_RESET` (R42, R58) -/
  vecReset : Word
  /-- `VEC_IRQ`, shared by IRQ and BRK (R58, R425) -/
  vecIrq : Word
  /-- `DEC_ADC`: the operands on which it differs from the default body of R174, first match (log 26) -/
  decAdc : List DecCase
  /-- `DEC_SBC`: the operands on which it differs from the default body of R177, first match (log 26) -/
  decSbc : List DecCase
  /-- `JMP_IND_PAGE_WRAP`, the NMOS page-wrap defect of JMP (abs) (R141) -/
  jmpIndPageWrap : Bool
  /-- `RESET_SP`: SP after reset, or unspecified (R41) -/
  resetSp : Option Byte
  /-- lcWriteRam after reset, or unspecified (R44; 92_eei_decisions.md D16) -/
  resetLcWriteRam : Option Bool
  /-- `BRK_HALT_PC_OFFSET`: the debugger-BRK halt reports the opcode's address plus this, 0 or 1
  (92_eei_decisions.md D24, R243) -/
  brkHaltPcOffset : Word
  deriving DecidableEq, Repr

/-- The parameters of the bus decoder (R6; log 17). -/
structure BusParams where
  /-- `LC_BASE`, the first of the sixteen language-card switch addresses (R66) -/
  lcBase : Word
  /-- `LC_SWITCH_READ_VALUE` (R70) -/
  lcSwitchReadValue : Byte
  /-- `IO_DEFAULT`, the byte an I/O address with no handler reads as (R73) -/
  ioDefault : Byte
  /-- `AUX_PRESENT`: no behaviour is defined for true, so a step of such a machine is refused (R56, U18) -/
  auxPresent : Bool
  deriving DecidableEq, Repr

/-- The values R6 gives the parameters of the core, and D24 the offset. -/
def CoreParams.spec : CoreParams where
  unimplementedOpcodes := [0xCB, 0xDB]
  vecNmi := 0xFFFA
  vecReset := 0xFFFC
  vecIrq := 0xFFFE
  decAdc := []
  decSbc := []
  jmpIndPageWrap := false
  resetSp := none
  resetLcWriteRam := none
  brkHaltPcOffset := 1

/-- The values R6 gives the parameters of the bus decoder. -/
def BusParams.spec : BusParams where
  lcBase := 0xC080
  lcSwitchReadValue := 0x00
  ioDefault := 0x00
  auxPresent := false

/-- What a ROM byte that was never loaded reads as (R39: 0), and, as a DESIGN CHOICE (log 5, unsafe),
what a byte of RAM, LC1, LC2 or LCH that nothing has written reads as. -/
def unlistedByte : Byte := 0x00

/-- `DEC_V`: the V flag after the n-th draw, by a decimal ADC or SBC. FREE VALUE (R176, U10; log 6). -/
opaque decV : Nat → Bool

/-- The byte the n-th device read answers at an I/O address. FREE VALUE (R75, U15; log 7). -/
opaque deviceByte : Nat → Word → Byte

/-- SP after a reset sequence at the n-th draw, where `RESET_SP` is unspecified. FREE VALUE (R41, R451, U11;
log 3). -/
opaque resetSp : Nat → Byte

/-- `lcWriteRam` after a reset sequence at the n-th draw, where it is unspecified. FREE VALUE (R44, R451, U12;
log 4). -/
opaque resetLcWriteRam : Nat → Bool

end Sys2Proof.Config
end

