-- ==== Sys2Proof/Syntax.lean ====
section
/-! DEFINITION. The instructions as syntax: one constructor of `Instr` for each of the 256 rows of
spec/opcode_table.json (30_encoding.md R106, R117), with its operand bytes assembled as R103 says, and
the classification of a row by its mnemonic and its addressing mode (R101). -/

namespace Sys2Proof

/-- The 97 mnemonics of the opcode table; the bit number n of RMBn, SMBn, BBRn, BBSn is an argument
(R104). `nop` stands for $EA and for the 44 reserved NOPs, `unimplemented` for $CB and $DB. -/
inductive Mnemonic where
  | lda | ldx | ldy | sta | stx | sty | stz
  | adc | sbc
  | cmp | cpx | cpy | and | ora | eor | bit | tsb | trb
  | asl | lsr | rol | ror | inc | dec | inx | iny | dex | dey
  | bcc | bcs | beq | bne | bmi | bpl | bvc | bvs | bra | jmp
  | jsr | rts | brk | rti
  | rmb (n : Fin 8) | smb (n : Fin 8) | bbr (n : Fin 8) | bbs (n : Fin 8)
  | tax | tay | txa | tya | tsx | txs | pha | pla | phx | plx
  | phy | ply | php | plp | clc | sec | cli | sei | cld | sed
  | clv | nop | unimplemented
  deriving DecidableEq, Repr

/-- An operand: the addressing mode of 30_encoding.md R101 with its assembled operand bytes (R103).
`rel` and `zpr` hold the signed displacement. -/
inductive Operand where
  | imp | acc
  | imm (v : Byte)
  | zp (z : Byte) | zpx (z : Byte) | zpy (z : Byte)
  | abs (a : Word) | abx (a : Word) | aby (a : Word)
  | ind (a : Word) | iax (a : Word)
  | izx (z : Byte) | izy (z : Byte) | izp (z : Byte)
  | rel (d : Int)
  | zpr (z : Byte) (d : Int)
  deriving DecidableEq, Repr

/-- The length in bytes of an instruction with this operand, the opcode byte included (R100, R101). -/
def Operand.length : Operand → Nat
  | .imp | .acc => 1
  | .imm _ | .zp _ | .zpx _ | .zpy _ | .rel _ | .izx _ | .izy _ | .izp _ => 2
  | .abs _ | .abx _ | .aby _ | .ind _ | .iax _ | .zpr _ _ => 3

/-- The instructions, one constructor for each row of the opcode table; the comment gives the opcode
byte (R106). A reserved NOP's constructor carries its opcode in its name. -/
inductive Instr where
  | ldaIzx (z : Byte)  -- $A1
  | ldaZp (z : Byte)  -- $A5
  | ldaImm (v : Byte)  -- $A9
  | ldaAbs (a : Word)  -- $AD
  | ldaIzy (z : Byte)  -- $B1
  | ldaIzp (z : Byte)  -- $B2
  | ldaZpx (z : Byte)  -- $B5
  | ldaAby (a : Word)  -- $B9
  | ldaAbx (a : Word)  -- $BD
  | ldxImm (v : Byte)  -- $A2
  | ldxZp (z : Byte)  -- $A6
  | ldxAbs (a : Word)  -- $AE
  | ldxZpy (z : Byte)  -- $B6
  | ldxAby (a : Word)  -- $BE
  | ldyImm (v : Byte)  -- $A0
  | ldyZp (z : Byte)  -- $A4
  | ldyAbs (a : Word)  -- $AC
  | ldyZpx (z : Byte)  -- $B4
  | ldyAbx (a : Word)  -- $BC
  | staIzx (z : Byte)  -- $81
  | staZp (z : Byte)  -- $85
  | staAbs (a : Word)  -- $8D
  | staIzy (z : Byte)  -- $91
  | staIzp (z : Byte)  -- $92
  | staZpx (z : Byte)  -- $95
  | staAby (a : Word)  -- $99
  | staAbx (a : Word)  -- $9D
  | stxZp (z : Byte)  -- $86
  | stxAbs (a : Word)  -- $8E
  | stxZpy (z : Byte)  -- $96
  | styZp (z : Byte)  -- $84
  | styAbs (a : Word)  -- $8C
  | styZpx (z : Byte)  -- $94
  | stzZp (z : Byte)  -- $64
  | stzZpx (z : Byte)  -- $74
  | stzAbs (a : Word)  -- $9C
  | stzAbx (a : Word)  -- $9E
  | adcIzx (z : Byte)  -- $61
  | adcZp (z : Byte)  -- $65
  | adcImm (v : Byte)  -- $69
  | adcAbs (a : Word)  -- $6D
  | adcIzy (z : Byte)  -- $71
  | adcIzp (z : Byte)  -- $72
  | adcZpx (z : Byte)  -- $75
  | adcAby (a : Word)  -- $79
  | adcAbx (a : Word)  -- $7D
  | sbcIzx (z : Byte)  -- $E1
  | sbcZp (z : Byte)  -- $E5
  | sbcImm (v : Byte)  -- $E9
  | sbcAbs (a : Word)  -- $ED
  | sbcIzy (z : Byte)  -- $F1
  | sbcIzp (z : Byte)  -- $F2
  | sbcZpx (z : Byte)  -- $F5
  | sbcAby (a : Word)  -- $F9
  | sbcAbx (a : Word)  -- $FD
  | cmpIzx (z : Byte)  -- $C1
  | cmpZp (z : Byte)  -- $C5
  | cmpImm (v : Byte)  -- $C9
  | cmpAbs (a : Word)  -- $CD
  | cmpIzy (z : Byte)  -- $D1
  | cmpIzp (z : Byte)  -- $D2
  | cmpZpx (z : Byte)  -- $D5
  | cmpAby (a : Word)  -- $D9
  | cmpAbx (a : Word)  -- $DD
  | cpxImm (v : Byte)  -- $E0
  | cpxZp (z : Byte)  -- $E4
  | cpxAbs (a : Word)  -- $EC
  | cpyImm (v : Byte)  -- $C0
  | cpyZp (z : Byte)  -- $C4
  | cpyAbs (a : Word)  -- $CC
  | andIzx (z : Byte)  -- $21
  | andZp (z : Byte)  -- $25
  | andImm (v : Byte)  -- $29
  | andAbs (a : Word)  -- $2D
  | andIzy (z : Byte)  -- $31
  | andIzp (z : Byte)  -- $32
  | andZpx (z : Byte)  -- $35
  | andAby (a : Word)  -- $39
  | andAbx (a : Word)  -- $3D
  | oraIzx (z : Byte)  -- $01
  | oraZp (z : Byte)  -- $05
  | oraImm (v : Byte)  -- $09
  | oraAbs (a : Word)  -- $0D
  | oraIzy (z : Byte)  -- $11
  | oraIzp (z : Byte)  -- $12
  | oraZpx (z : Byte)  -- $15
  | oraAby (a : Word)  -- $19
  | oraAbx (a : Word)  -- $1D
  | eorIzx (z : Byte)  -- $41
  | eorZp (z : Byte)  -- $45
  | eorImm (v : Byte)  -- $49
  | eorAbs (a : Word)  -- $4D
  | eorIzy (z : Byte)  -- $51
  | eorIzp (z : Byte)  -- $52
  | eorZpx (z : Byte)  -- $55
  | eorAby (a : Word)  -- $59
  | eorAbx (a : Word)  -- $5D
  | bitZp (z : Byte)  -- $24
  | bitAbs (a : Word)  -- $2C
  | bitZpx (z : Byte)  -- $34
  | bitAbx (a : Word)  -- $3C
  | bitImm (v : Byte)  -- $89
  | tsbZp (z : Byte)  -- $04
  | tsbAbs (a : Word)  -- $0C
  | trbZp (z : Byte)  -- $14
  | trbAbs (a : Word)  -- $1C
  | aslZp (z : Byte)  -- $06
  | aslAcc  -- $0A
  | aslAbs (a : Word)  -- $0E
  | aslZpx (z : Byte)  -- $16
  | aslAbx (a : Word)  -- $1E
  | lsrZp (z : Byte)  -- $46
  | lsrAcc  -- $4A
  | lsrAbs (a : Word)  -- $4E
  | lsrZpx (z : Byte)  -- $56
  | lsrAbx (a : Word)  -- $5E
  | rolZp (z : Byte)  -- $26
  | rolAcc  -- $2A
  | rolAbs (a : Word)  -- $2E
  | rolZpx (z : Byte)  -- $36
  | rolAbx (a : Word)  -- $3E
  | rorZp (z : Byte)  -- $66
  | rorAcc  -- $6A
  | rorAbs (a : Word)  -- $6E
  | rorZpx (z : Byte)  -- $76
  | rorAbx (a : Word)  -- $7E
  | incAcc  -- $1A
  | incZp (z : Byte)  -- $E6
  | incAbs (a : Word)  -- $EE
  | incZpx (z : Byte)  -- $F6
  | incAbx (a : Word)  -- $FE
  | decAcc  -- $3A
  | decZp (z : Byte)  -- $C6
  | decAbs (a : Word)  -- $CE
  | decZpx (z : Byte)  -- $D6
  | decAbx (a : Word)  -- $DE
  | inx  -- $E8
  | iny  -- $C8
  | dex  -- $CA
  | dey  -- $88
  | bcc (d : Int)  -- $90
  | bcs (d : Int)  -- $B0
  | beq (d : Int)  -- $F0
  | bne (d : Int)  -- $D0
  | bmi (d : Int)  -- $30
  | bpl (d : Int)  -- $10
  | bvc (d : Int)  -- $50
  | bvs (d : Int)  -- $70
  | bra (d : Int)  -- $80
  | jmpAbs (a : Word)  -- $4C
  | jmpInd (a : Word)  -- $6C
  | jmpIax (a : Word)  -- $7C
  | jsr (a : Word)  -- $20
  | rts  -- $60
  | brk  -- $00
  | rti  -- $40
  | rmb0 (z : Byte)  -- $07
  | rmb1 (z : Byte)  -- $17
  | rmb2 (z : Byte)  -- $27
  | rmb3 (z : Byte)  -- $37
  | rmb4 (z : Byte)  -- $47
  | rmb5 (z : Byte)  -- $57
  | rmb6 (z : Byte)  -- $67
  | rmb7 (z : Byte)  -- $77
  | smb0 (z : Byte)  -- $87
  | smb1 (z : Byte)  -- $97
  | smb2 (z : Byte)  -- $A7
  | smb3 (z : Byte)  -- $B7
  | smb4 (z : Byte)  -- $C7
  | smb5 (z : Byte)  -- $D7
  | smb6 (z : Byte)  -- $E7
  | smb7 (z : Byte)  -- $F7
  | bbr0 (z : Byte) (d : Int)  -- $0F
  | bbr1 (z : Byte) (d : Int)  -- $1F
  | bbr2 (z : Byte) (d : Int)  -- $2F
  | bbr3 (z : Byte) (d : Int)  -- $3F
  | bbr4 (z : Byte) (d : Int)  -- $4F
  | bbr5 (z : Byte) (d : Int)  -- $5F
  | bbr6 (z : Byte) (d : Int)  -- $6F
  | bbr7 (z : Byte) (d : Int)  -- $7F
  | bbs0 (z : Byte) (d : Int)  -- $8F
  | bbs1 (z : Byte) (d : Int)  -- $9F
  | bbs2 (z : Byte) (d : Int)  -- $AF
  | bbs3 (z : Byte) (d : Int)  -- $BF
  | bbs4 (z : Byte) (d : Int)  -- $CF
  | bbs5 (z : Byte) (d : Int)  -- $DF
  | bbs6 (z : Byte) (d : Int)  -- $EF
  | bbs7 (z : Byte) (d : Int)  -- $FF
  | tax  -- $AA
  | tay  -- $A8
  | txa  -- $8A
  | tya  -- $98
  | tsx  -- $BA
  | txs  -- $9A
  | pha  -- $48
  | pla  -- $68
  | phx  -- $DA
  | plx  -- $FA
  | phy  -- $5A
  | ply  -- $7A
  | php  -- $08
  | plp  -- $28
  | clc  -- $18
  | sec  -- $38
  | cli  -- $58
  | sei  -- $78
  | cld  -- $D8
  | sed  -- $F8
  | clv  -- $B8
  | nop02 (v : Byte)  -- $02
  | nop22 (v : Byte)  -- $22
  | nop42 (v : Byte)  -- $42
  | nop44 (z : Byte)  -- $44
  | nop54 (z : Byte)  -- $54
  | nop5C (a : Word)  -- $5C
  | nop62 (v : Byte)  -- $62
  | nop82 (v : Byte)  -- $82
  | nopC2 (v : Byte)  -- $C2
  | nopD4 (z : Byte)  -- $D4
  | nopDC (a : Word)  -- $DC
  | nopE2 (v : Byte)  -- $E2
  | nopF4 (z : Byte)  -- $F4
  | nopFC (a : Word)  -- $FC
  | nop03  -- $03
  | nop0B  -- $0B
  | nop13  -- $13
  | nop1B  -- $1B
  | nop23  -- $23
  | nop2B  -- $2B
  | nop33  -- $33
  | nop3B  -- $3B
  | nop43  -- $43
  | nop4B  -- $4B
  | nop53  -- $53
  | nop5B  -- $5B
  | nop63  -- $63
  | nop6B  -- $6B
  | nop73  -- $73
  | nop7B  -- $7B
  | nop83  -- $83
  | nop8B  -- $8B
  | nop93  -- $93
  | nop9B  -- $9B
  | nopA3  -- $A3
  | nopAB  -- $AB
  | nopB3  -- $B3
  | nopBB  -- $BB
  | nopC3  -- $C3
  | nopD3  -- $D3
  | nopE3  -- $E3
  | nop  -- $EA
  | nopEB  -- $EB
  | nopF3  -- $F3
  | nopFB  -- $FB
  | unimplementedCB  -- $CB
  | unimplementedDB  -- $DB
  deriving DecidableEq, Repr

/-- The mnemonic and the operand of each instruction (R106). -/
def Instr.form : Instr → Mnemonic × Operand
  | .ldaIzx z => (.lda, .izx z)
  | .ldaZp z => (.lda, .zp z)
  | .ldaImm v => (.lda, .imm v)
  | .ldaAbs a => (.lda, .abs a)
  | .ldaIzy z => (.lda, .izy z)
  | .ldaIzp z => (.lda, .izp z)
  | .ldaZpx z => (.lda, .zpx z)
  | .ldaAby a => (.lda, .aby a)
  | .ldaAbx a => (.lda, .abx a)
  | .ldxImm v => (.ldx, .imm v)
  | .ldxZp z => (.ldx, .zp z)
  | .ldxAbs a => (.ldx, .abs a)
  | .ldxZpy z => (.ldx, .zpy z)
  | .ldxAby a => (.ldx, .aby a)
  | .ldyImm v => (.ldy, .imm v)
  | .ldyZp z => (.ldy, .zp z)
  | .ldyAbs a => (.ldy, .abs a)
  | .ldyZpx z => (.ldy, .zpx z)
  | .ldyAbx a => (.ldy, .abx a)
  | .staIzx z => (.sta, .izx z)
  | .staZp z => (.sta, .zp z)
  | .staAbs a => (.sta, .abs a)
  | .staIzy z => (.sta, .izy z)
  | .staIzp z => (.sta, .izp z)
  | .staZpx z => (.sta, .zpx z)
  | .staAby a => (.sta, .aby a)
  | .staAbx a => (.sta, .abx a)
  | .stxZp z => (.stx, .zp z)
  | .stxAbs a => (.stx, .abs a)
  | .stxZpy z => (.stx, .zpy z)
  | .styZp z => (.sty, .zp z)
  | .styAbs a => (.sty, .abs a)
  | .styZpx z => (.sty, .zpx z)
  | .stzZp z => (.stz, .zp z)
  | .stzZpx z => (.stz, .zpx z)
  | .stzAbs a => (.stz, .abs a)
  | .stzAbx a => (.stz, .abx a)
  | .adcIzx z => (.adc, .izx z)
  | .adcZp z => (.adc, .zp z)
  | .adcImm v => (.adc, .imm v)
  | .adcAbs a => (.adc, .abs a)
  | .adcIzy z => (.adc, .izy z)
  | .adcIzp z => (.adc, .izp z)
  | .adcZpx z => (.adc, .zpx z)
  | .adcAby a => (.adc, .aby a)
  | .adcAbx a => (.adc, .abx a)
  | .sbcIzx z => (.sbc, .izx z)
  | .sbcZp z => (.sbc, .zp z)
  | .sbcImm v => (.sbc, .imm v)
  | .sbcAbs a => (.sbc, .abs a)
  | .sbcIzy z => (.sbc, .izy z)
  | .sbcIzp z => (.sbc, .izp z)
  | .sbcZpx z => (.sbc, .zpx z)
  | .sbcAby a => (.sbc, .aby a)
  | .sbcAbx a => (.sbc, .abx a)
  | .cmpIzx z => (.cmp, .izx z)
  | .cmpZp z => (.cmp, .zp z)
  | .cmpImm v => (.cmp, .imm v)
  | .cmpAbs a => (.cmp, .abs a)
  | .cmpIzy z => (.cmp, .izy z)
  | .cmpIzp z => (.cmp, .izp z)
  | .cmpZpx z => (.cmp, .zpx z)
  | .cmpAby a => (.cmp, .aby a)
  | .cmpAbx a => (.cmp, .abx a)
  | .cpxImm v => (.cpx, .imm v)
  | .cpxZp z => (.cpx, .zp z)
  | .cpxAbs a => (.cpx, .abs a)
  | .cpyImm v => (.cpy, .imm v)
  | .cpyZp z => (.cpy, .zp z)
  | .cpyAbs a => (.cpy, .abs a)
  | .andIzx z => (.and, .izx z)
  | .andZp z => (.and, .zp z)
  | .andImm v => (.and, .imm v)
  | .andAbs a => (.and, .abs a)
  | .andIzy z => (.and, .izy z)
  | .andIzp z => (.and, .izp z)
  | .andZpx z => (.and, .zpx z)
  | .andAby a => (.and, .aby a)
  | .andAbx a => (.and, .abx a)
  | .oraIzx z => (.ora, .izx z)
  | .oraZp z => (.ora, .zp z)
  | .oraImm v => (.ora, .imm v)
  | .oraAbs a => (.ora, .abs a)
  | .oraIzy z => (.ora, .izy z)
  | .oraIzp z => (.ora, .izp z)
  | .oraZpx z => (.ora, .zpx z)
  | .oraAby a => (.ora, .aby a)
  | .oraAbx a => (.ora, .abx a)
  | .eorIzx z => (.eor, .izx z)
  | .eorZp z => (.eor, .zp z)
  | .eorImm v => (.eor, .imm v)
  | .eorAbs a => (.eor, .abs a)
  | .eorIzy z => (.eor, .izy z)
  | .eorIzp z => (.eor, .izp z)
  | .eorZpx z => (.eor, .zpx z)
  | .eorAby a => (.eor, .aby a)
  | .eorAbx a => (.eor, .abx a)
  | .bitZp z => (.bit, .zp z)
  | .bitAbs a => (.bit, .abs a)
  | .bitZpx z => (.bit, .zpx z)
  | .bitAbx a => (.bit, .abx a)
  | .bitImm v => (.bit, .imm v)
  | .tsbZp z => (.tsb, .zp z)
  | .tsbAbs a => (.tsb, .abs a)
  | .trbZp z => (.trb, .zp z)
  | .trbAbs a => (.trb, .abs a)
  | .aslZp z => (.asl, .zp z)
  | .aslAcc => (.asl, .acc)
  | .aslAbs a => (.asl, .abs a)
  | .aslZpx z => (.asl, .zpx z)
  | .aslAbx a => (.asl, .abx a)
  | .lsrZp z => (.lsr, .zp z)
  | .lsrAcc => (.lsr, .acc)
  | .lsrAbs a => (.lsr, .abs a)
  | .lsrZpx z => (.lsr, .zpx z)
  | .lsrAbx a => (.lsr, .abx a)
  | .rolZp z => (.rol, .zp z)
  | .rolAcc => (.rol, .acc)
  | .rolAbs a => (.rol, .abs a)
  | .rolZpx z => (.rol, .zpx z)
  | .rolAbx a => (.rol, .abx a)
  | .rorZp z => (.ror, .zp z)
  | .rorAcc => (.ror, .acc)
  | .rorAbs a => (.ror, .abs a)
  | .rorZpx z => (.ror, .zpx z)
  | .rorAbx a => (.ror, .abx a)
  | .incAcc => (.inc, .acc)
  | .incZp z => (.inc, .zp z)
  | .incAbs a => (.inc, .abs a)
  | .incZpx z => (.inc, .zpx z)
  | .incAbx a => (.inc, .abx a)
  | .decAcc => (.dec, .acc)
  | .decZp z => (.dec, .zp z)
  | .decAbs a => (.dec, .abs a)
  | .decZpx z => (.dec, .zpx z)
  | .decAbx a => (.dec, .abx a)
  | .inx => (.inx, .imp)
  | .iny => (.iny, .imp)
  | .dex => (.dex, .imp)
  | .dey => (.dey, .imp)
  | .bcc d => (.bcc, .rel d)
  | .bcs d => (.bcs, .rel d)
  | .beq d => (.beq, .rel d)
  | .bne d => (.bne, .rel d)
  | .bmi d => (.bmi, .rel d)
  | .bpl d => (.bpl, .rel d)
  | .bvc d => (.bvc, .rel d)
  | .bvs d => (.bvs, .rel d)
  | .bra d => (.bra, .rel d)
  | .jmpAbs a => (.jmp, .abs a)
  | .jmpInd a => (.jmp, .ind a)
  | .jmpIax a => (.jmp, .iax a)
  | .jsr a => (.jsr, .abs a)
  | .rts => (.rts, .imp)
  | .brk => (.brk, .imp)
  | .rti => (.rti, .imp)
  | .rmb0 z => (.rmb 0, .zp z)
  | .rmb1 z => (.rmb 1, .zp z)
  | .rmb2 z => (.rmb 2, .zp z)
  | .rmb3 z => (.rmb 3, .zp z)
  | .rmb4 z => (.rmb 4, .zp z)
  | .rmb5 z => (.rmb 5, .zp z)
  | .rmb6 z => (.rmb 6, .zp z)
  | .rmb7 z => (.rmb 7, .zp z)
  | .smb0 z => (.smb 0, .zp z)
  | .smb1 z => (.smb 1, .zp z)
  | .smb2 z => (.smb 2, .zp z)
  | .smb3 z => (.smb 3, .zp z)
  | .smb4 z => (.smb 4, .zp z)
  | .smb5 z => (.smb 5, .zp z)
  | .smb6 z => (.smb 6, .zp z)
  | .smb7 z => (.smb 7, .zp z)
  | .bbr0 z d => (.bbr 0, .zpr z d)
  | .bbr1 z d => (.bbr 1, .zpr z d)
  | .bbr2 z d => (.bbr 2, .zpr z d)
  | .bbr3 z d => (.bbr 3, .zpr z d)
  | .bbr4 z d => (.bbr 4, .zpr z d)
  | .bbr5 z d => (.bbr 5, .zpr z d)
  | .bbr6 z d => (.bbr 6, .zpr z d)
  | .bbr7 z d => (.bbr 7, .zpr z d)
  | .bbs0 z d => (.bbs 0, .zpr z d)
  | .bbs1 z d => (.bbs 1, .zpr z d)
  | .bbs2 z d => (.bbs 2, .zpr z d)
  | .bbs3 z d => (.bbs 3, .zpr z d)
  | .bbs4 z d => (.bbs 4, .zpr z d)
  | .bbs5 z d => (.bbs 5, .zpr z d)
  | .bbs6 z d => (.bbs 6, .zpr z d)
  | .bbs7 z d => (.bbs 7, .zpr z d)
  | .tax => (.tax, .imp)
  | .tay => (.tay, .imp)
  | .txa => (.txa, .imp)
  | .tya => (.tya, .imp)
  | .tsx => (.tsx, .imp)
  | .txs => (.txs, .imp)
  | .pha => (.pha, .imp)
  | .pla => (.pla, .imp)
  | .phx => (.phx, .imp)
  | .plx => (.plx, .imp)
  | .phy => (.phy, .imp)
  | .ply => (.ply, .imp)
  | .php => (.php, .imp)
  | .plp => (.plp, .imp)
  | .clc => (.clc, .imp)
  | .sec => (.sec, .imp)
  | .cli => (.cli, .imp)
  | .sei => (.sei, .imp)
  | .cld => (.cld, .imp)
  | .sed => (.sed, .imp)
  | .clv => (.clv, .imp)
  | .nop02 v => (.nop, .imm v)
  | .nop22 v => (.nop, .imm v)
  | .nop42 v => (.nop, .imm v)
  | .nop44 z => (.nop, .zp z)
  | .nop54 z => (.nop, .zpx z)
  | .nop5C a => (.nop, .abs a)
  | .nop62 v => (.nop, .imm v)
  | .nop82 v => (.nop, .imm v)
  | .nopC2 v => (.nop, .imm v)
  | .nopD4 z => (.nop, .zpx z)
  | .nopDC a => (.nop, .abs a)
  | .nopE2 v => (.nop, .imm v)
  | .nopF4 z => (.nop, .zpx z)
  | .nopFC a => (.nop, .abs a)
  | .nop03 => (.nop, .imp)
  | .nop0B => (.nop, .imp)
  | .nop13 => (.nop, .imp)
  | .nop1B => (.nop, .imp)
  | .nop23 => (.nop, .imp)
  | .nop2B => (.nop, .imp)
  | .nop33 => (.nop, .imp)
  | .nop3B => (.nop, .imp)
  | .nop43 => (.nop, .imp)
  | .nop4B => (.nop, .imp)
  | .nop53 => (.nop, .imp)
  | .nop5B => (.nop, .imp)
  | .nop63 => (.nop, .imp)
  | .nop6B => (.nop, .imp)
  | .nop73 => (.nop, .imp)
  | .nop7B => (.nop, .imp)
  | .nop83 => (.nop, .imp)
  | .nop8B => (.nop, .imp)
  | .nop93 => (.nop, .imp)
  | .nop9B => (.nop, .imp)
  | .nopA3 => (.nop, .imp)
  | .nopAB => (.nop, .imp)
  | .nopB3 => (.nop, .imp)
  | .nopBB => (.nop, .imp)
  | .nopC3 => (.nop, .imp)
  | .nopD3 => (.nop, .imp)
  | .nopE3 => (.nop, .imp)
  | .nop => (.nop, .imp)
  | .nopEB => (.nop, .imp)
  | .nopF3 => (.nop, .imp)
  | .nopFB => (.nop, .imp)
  | .unimplementedCB => (.unimplemented, .imp)
  | .unimplementedDB => (.unimplemented, .imp)

/-- The mnemonic of an instruction. -/
def Instr.mnemonic (i : Instr) : Mnemonic := i.form.1

/-- The operand of an instruction. -/
def Instr.operand (i : Instr) : Operand := i.form.2

/-- The length of an instruction in bytes (R100). -/
def Instr.length (i : Instr) : Nat := i.operand.length

end Sys2Proof
end

