-- ==== Sys2Proof/WellFormed.lean ====
section
/-! DEFINITION. Which terms of `Instr` are instructions. Every operand field but one has the type of
exactly the values its bytes can hold; the signed displacement of `rel` and `zpr` is an `Int` and is
checked here (30_encoding.md R103: -128 to +127). -/

namespace Sys2Proof

/-- The displacement a `rel8` byte can hold (R103). -/
def displacementOk (d : Int) : Bool := decide (-128 ≤ d) && decide (d ≤ 127)

/-- The check of an operand: the displacement of the two relative modes is in range. -/
def Operand.ok : Operand → Bool
  | .rel d => displacementOk d
  | .zpr _ d => displacementOk d
  | .imp | .acc | .imm _ | .zp _ | .zpx _ | .zpy _ | .abs _ | .abx _ | .aby _ | .ind _ | .iax _
  | .izx _ | .izy _ | .izp _ => true

/-- A well-formed instruction. -/
abbrev WellFormed (i : Instr) : Prop := i.operand.ok = true

end Sys2Proof
end

