-- ==== Sys2Proof/Decode.lean ====
section
/-! DEFINITION. The decoder, total on any bytes and rejecting by name, and after it the encoder
(30_encoding.md R100 to R107). The decoding table is the grid of R105: one function a row of the grid,
indexed by the low nibble. The helpers of byte order, displacement and bit fields stand first. -/

namespace Sys2Proof

/-- `lo(w) = w[7:0]` (00_scope.md R7). -/
def loByte (w : Word) : Byte := w.extractLsb' 0 8

/-- `hi(w) = w[15:8]` (00_scope.md R7). -/
def hiByte (w : Word) : Byte := w.extractLsb' 8 8

/-- `w16(l, h) = {h, l}`: little-endian, the low byte first (00_scope.md R7, 20_memory.md R53). -/
def w16 (l h : Byte) : Word := h ++ l

/-- An address in page zero (R103: the effective address has high byte $00). -/
def zeroPage (z : Byte) : Word := z.setWidth 16

/-- `sext_8` (00_scope.md R9): the signed displacement of a byte (R103). -/
def displacement (b : Byte) : Int := b.toInt

/-- The byte of a displacement: the inverse of `displacement` on -128..127. -/
def displacementByte (d : Int) : Byte := BitVec.ofInt 8 d

/-- Why bytes are no instruction: there are none, or the opcode byte (which always has a row, R110)
wants more operand bytes than there are. -/
inductive DecodeError where
  | noBytes
  | truncated (opcode : Byte)
  deriving DecidableEq, Repr

/-- Row $0x of the grid R105: the instruction by the low nibble of its opcode, from its operand bytes. -/
def row0 (lo : Nat) (b1 b2 : Byte) : Instr :=
  match lo with
  | 0x0 => .brk
  | 0x1 => .oraIzx b1
  | 0x2 => .nop02 b1
  | 0x3 => .nop03
  | 0x4 => .tsbZp b1
  | 0x5 => .oraZp b1
  | 0x6 => .aslZp b1
  | 0x7 => .rmb0 b1
  | 0x8 => .php
  | 0x9 => .oraImm b1
  | 0xA => .aslAcc
  | 0xB => .nop0B
  | 0xC => .tsbAbs (w16 b1 b2)
  | 0xD => .oraAbs (w16 b1 b2)
  | 0xE => .aslAbs (w16 b1 b2)
  | _ => .bbr0 b1 (displacement b2)

/-- Row $1x of the grid R105: the instruction by the low nibble of its opcode, from its operand bytes. -/
def row1 (lo : Nat) (b1 b2 : Byte) : Instr :=
  match lo with
  | 0x0 => .bpl (displacement b1)
  | 0x1 => .oraIzy b1
  | 0x2 => .oraIzp b1
  | 0x3 => .nop13
  | 0x4 => .trbZp b1
  | 0x5 => .oraZpx b1
  | 0x6 => .aslZpx b1
  | 0x7 => .rmb1 b1
  | 0x8 => .clc
  | 0x9 => .oraAby (w16 b1 b2)
  | 0xA => .incAcc
  | 0xB => .nop1B
  | 0xC => .trbAbs (w16 b1 b2)
  | 0xD => .oraAbx (w16 b1 b2)
  | 0xE => .aslAbx (w16 b1 b2)
  | _ => .bbr1 b1 (displacement b2)

/-- Row $2x of the grid R105: the instruction by the low nibble of its opcode, from its operand bytes. -/
def row2 (lo : Nat) (b1 b2 : Byte) : Instr :=
  match lo with
  | 0x0 => .jsr (w16 b1 b2)
  | 0x1 => .andIzx b1
  | 0x2 => .nop22 b1
  | 0x3 => .nop23
  | 0x4 => .bitZp b1
  | 0x5 => .andZp b1
  | 0x6 => .rolZp b1
  | 0x7 => .rmb2 b1
  | 0x8 => .plp
  | 0x9 => .andImm b1
  | 0xA => .rolAcc
  | 0xB => .nop2B
  | 0xC => .bitAbs (w16 b1 b2)
  | 0xD => .andAbs (w16 b1 b2)
  | 0xE => .rolAbs (w16 b1 b2)
  | _ => .bbr2 b1 (displacement b2)

/-- Row $3x of the grid R105: the instruction by the low nibble of its opcode, from its operand bytes. -/
def row3 (lo : Nat) (b1 b2 : Byte) : Instr :=
  match lo with
  | 0x0 => .bmi (displacement b1)
  | 0x1 => .andIzy b1
  | 0x2 => .andIzp b1
  | 0x3 => .nop33
  | 0x4 => .bitZpx b1
  | 0x5 => .andZpx b1
  | 0x6 => .rolZpx b1
  | 0x7 => .rmb3 b1
  | 0x8 => .sec
  | 0x9 => .andAby (w16 b1 b2)
  | 0xA => .decAcc
  | 0xB => .nop3B
  | 0xC => .bitAbx (w16 b1 b2)
  | 0xD => .andAbx (w16 b1 b2)
  | 0xE => .rolAbx (w16 b1 b2)
  | _ => .bbr3 b1 (displacement b2)

/-- Row $4x of the grid R105: the instruction by the low nibble of its opcode, from its operand bytes. -/
def row4 (lo : Nat) (b1 b2 : Byte) : Instr :=
  match lo with
  | 0x0 => .rti
  | 0x1 => .eorIzx b1
  | 0x2 => .nop42 b1
  | 0x3 => .nop43
  | 0x4 => .nop44 b1
  | 0x5 => .eorZp b1
  | 0x6 => .lsrZp b1
  | 0x7 => .rmb4 b1
  | 0x8 => .pha
  | 0x9 => .eorImm b1
  | 0xA => .lsrAcc
  | 0xB => .nop4B
  | 0xC => .jmpAbs (w16 b1 b2)
  | 0xD => .eorAbs (w16 b1 b2)
  | 0xE => .lsrAbs (w16 b1 b2)
  | _ => .bbr4 b1 (displacement b2)

/-- Row $5x of the grid R105: the instruction by the low nibble of its opcode, from its operand bytes. -/
def row5 (lo : Nat) (b1 b2 : Byte) : Instr :=
  match lo with
  | 0x0 => .bvc (displacement b1)
  | 0x1 => .eorIzy b1
  | 0x2 => .eorIzp b1
  | 0x3 => .nop53
  | 0x4 => .nop54 b1
  | 0x5 => .eorZpx b1
  | 0x6 => .lsrZpx b1
  | 0x7 => .rmb5 b1
  | 0x8 => .cli
  | 0x9 => .eorAby (w16 b1 b2)
  | 0xA => .phy
  | 0xB => .nop5B
  | 0xC => .nop5C (w16 b1 b2)
  | 0xD => .eorAbx (w16 b1 b2)
  | 0xE => .lsrAbx (w16 b1 b2)
  | _ => .bbr5 b1 (displacement b2)

/-- Row $6x of the grid R105: the instruction by the low nibble of its opcode, from its operand bytes. -/
def row6 (lo : Nat) (b1 b2 : Byte) : Instr :=
  match lo with
  | 0x0 => .rts
  | 0x1 => .adcIzx b1
  | 0x2 => .nop62 b1
  | 0x3 => .nop63
  | 0x4 => .stzZp b1
  | 0x5 => .adcZp b1
  | 0x6 => .rorZp b1
  | 0x7 => .rmb6 b1
  | 0x8 => .pla
  | 0x9 => .adcImm b1
  | 0xA => .rorAcc
  | 0xB => .nop6B
  | 0xC => .jmpInd (w16 b1 b2)
  | 0xD => .adcAbs (w16 b1 b2)
  | 0xE => .rorAbs (w16 b1 b2)
  | _ => .bbr6 b1 (displacement b2)

/-- Row $7x of the grid R105: the instruction by the low nibble of its opcode, from its operand bytes. -/
def row7 (lo : Nat) (b1 b2 : Byte) : Instr :=
  match lo with
  | 0x0 => .bvs (displacement b1)
  | 0x1 => .adcIzy b1
  | 0x2 => .adcIzp b1
  | 0x3 => .nop73
  | 0x4 => .stzZpx b1
  | 0x5 => .adcZpx b1
  | 0x6 => .rorZpx b1
  | 0x7 => .rmb7 b1
  | 0x8 => .sei
  | 0x9 => .adcAby (w16 b1 b2)
  | 0xA => .ply
  | 0xB => .nop7B
  | 0xC => .jmpIax (w16 b1 b2)
  | 0xD => .adcAbx (w16 b1 b2)
  | 0xE => .rorAbx (w16 b1 b2)
  | _ => .bbr7 b1 (displacement b2)

/-- Row $8x of the grid R105: the instruction by the low nibble of its opcode, from its operand bytes. -/
def row8 (lo : Nat) (b1 b2 : Byte) : Instr :=
  match lo with
  | 0x0 => .bra (displacement b1)
  | 0x1 => .staIzx b1
  | 0x2 => .nop82 b1
  | 0x3 => .nop83
  | 0x4 => .styZp b1
  | 0x5 => .staZp b1
  | 0x6 => .stxZp b1
  | 0x7 => .smb0 b1
  | 0x8 => .dey
  | 0x9 => .bitImm b1
  | 0xA => .txa
  | 0xB => .nop8B
  | 0xC => .styAbs (w16 b1 b2)
  | 0xD => .staAbs (w16 b1 b2)
  | 0xE => .stxAbs (w16 b1 b2)
  | _ => .bbs0 b1 (displacement b2)

/-- Row $9x of the grid R105: the instruction by the low nibble of its opcode, from its operand bytes. -/
def row9 (lo : Nat) (b1 b2 : Byte) : Instr :=
  match lo with
  | 0x0 => .bcc (displacement b1)
  | 0x1 => .staIzy b1
  | 0x2 => .staIzp b1
  | 0x3 => .nop93
  | 0x4 => .styZpx b1
  | 0x5 => .staZpx b1
  | 0x6 => .stxZpy b1
  | 0x7 => .smb1 b1
  | 0x8 => .tya
  | 0x9 => .staAby (w16 b1 b2)
  | 0xA => .txs
  | 0xB => .nop9B
  | 0xC => .stzAbs (w16 b1 b2)
  | 0xD => .staAbx (w16 b1 b2)
  | 0xE => .stzAbx (w16 b1 b2)
  | _ => .bbs1 b1 (displacement b2)

/-- Row $Ax of the grid R105: the instruction by the low nibble of its opcode, from its operand bytes. -/
def rowA (lo : Nat) (b1 b2 : Byte) : Instr :=
  match lo with
  | 0x0 => .ldyImm b1
  | 0x1 => .ldaIzx b1
  | 0x2 => .ldxImm b1
  | 0x3 => .nopA3
  | 0x4 => .ldyZp b1
  | 0x5 => .ldaZp b1
  | 0x6 => .ldxZp b1
  | 0x7 => .smb2 b1
  | 0x8 => .tay
  | 0x9 => .ldaImm b1
  | 0xA => .tax
  | 0xB => .nopAB
  | 0xC => .ldyAbs (w16 b1 b2)
  | 0xD => .ldaAbs (w16 b1 b2)
  | 0xE => .ldxAbs (w16 b1 b2)
  | _ => .bbs2 b1 (displacement b2)

/-- Row $Bx of the grid R105: the instruction by the low nibble of its opcode, from its operand bytes. -/
def rowB (lo : Nat) (b1 b2 : Byte) : Instr :=
  match lo with
  | 0x0 => .bcs (displacement b1)
  | 0x1 => .ldaIzy b1
  | 0x2 => .ldaIzp b1
  | 0x3 => .nopB3
  | 0x4 => .ldyZpx b1
  | 0x5 => .ldaZpx b1
  | 0x6 => .ldxZpy b1
  | 0x7 => .smb3 b1
  | 0x8 => .clv
  | 0x9 => .ldaAby (w16 b1 b2)
  | 0xA => .tsx
  | 0xB => .nopBB
  | 0xC => .ldyAbx (w16 b1 b2)
  | 0xD => .ldaAbx (w16 b1 b2)
  | 0xE => .ldxAby (w16 b1 b2)
  | _ => .bbs3 b1 (displacement b2)

/-- Row $Cx of the grid R105: the instruction by the low nibble of its opcode, from its operand bytes. -/
def rowC (lo : Nat) (b1 b2 : Byte) : Instr :=
  match lo with
  | 0x0 => .cpyImm b1
  | 0x1 => .cmpIzx b1
  | 0x2 => .nopC2 b1
  | 0x3 => .nopC3
  | 0x4 => .cpyZp b1
  | 0x5 => .cmpZp b1
  | 0x6 => .decZp b1
  | 0x7 => .smb4 b1
  | 0x8 => .iny
  | 0x9 => .cmpImm b1
  | 0xA => .dex
  | 0xB => .unimplementedCB
  | 0xC => .cpyAbs (w16 b1 b2)
  | 0xD => .cmpAbs (w16 b1 b2)
  | 0xE => .decAbs (w16 b1 b2)
  | _ => .bbs4 b1 (displacement b2)

/-- Row $Dx of the grid R105: the instruction by the low nibble of its opcode, from its operand bytes. -/
def rowD (lo : Nat) (b1 b2 : Byte) : Instr :=
  match lo with
  | 0x0 => .bne (displacement b1)
  | 0x1 => .cmpIzy b1
  | 0x2 => .cmpIzp b1
  | 0x3 => .nopD3
  | 0x4 => .nopD4 b1
  | 0x5 => .cmpZpx b1
  | 0x6 => .decZpx b1
  | 0x7 => .smb5 b1
  | 0x8 => .cld
  | 0x9 => .cmpAby (w16 b1 b2)
  | 0xA => .phx
  | 0xB => .unimplementedDB
  | 0xC => .nopDC (w16 b1 b2)
  | 0xD => .cmpAbx (w16 b1 b2)
  | 0xE => .decAbx (w16 b1 b2)
  | _ => .bbs5 b1 (displacement b2)

/-- Row $Ex of the grid R105: the instruction by the low nibble of its opcode, from its operand bytes. -/
def rowE (lo : Nat) (b1 b2 : Byte) : Instr :=
  match lo with
  | 0x0 => .cpxImm b1
  | 0x1 => .sbcIzx b1
  | 0x2 => .nopE2 b1
  | 0x3 => .nopE3
  | 0x4 => .cpxZp b1
  | 0x5 => .sbcZp b1
  | 0x6 => .incZp b1
  | 0x7 => .smb6 b1
  | 0x8 => .inx
  | 0x9 => .sbcImm b1
  | 0xA => .nop
  | 0xB => .nopEB
  | 0xC => .cpxAbs (w16 b1 b2)
  | 0xD => .sbcAbs (w16 b1 b2)
  | 0xE => .incAbs (w16 b1 b2)
  | _ => .bbs6 b1 (displacement b2)

/-- Row $Fx of the grid R105: the instruction by the low nibble of its opcode, from its operand bytes. -/
def rowF (lo : Nat) (b1 b2 : Byte) : Instr :=
  match lo with
  | 0x0 => .beq (displacement b1)
  | 0x1 => .sbcIzy b1
  | 0x2 => .sbcIzp b1
  | 0x3 => .nopF3
  | 0x4 => .nopF4 b1
  | 0x5 => .sbcZpx b1
  | 0x6 => .incZpx b1
  | 0x7 => .smb7 b1
  | 0x8 => .sed
  | 0x9 => .sbcAby (w16 b1 b2)
  | 0xA => .plx
  | 0xB => .nopFB
  | 0xC => .nopFC (w16 b1 b2)
  | 0xD => .sbcAbx (w16 b1 b2)
  | 0xE => .incAbx (w16 b1 b2)
  | _ => .bbs7 b1 (displacement b2)

/-- The instruction an opcode byte stands for, with its operand bytes: every one of the 256 bytes has a
row (R110, R117). -/
def instrOf (opcode b1 b2 : Byte) : Instr :=
  let lo := opcode.toNat % 16
  match opcode.toNat / 16 with
  | 0x0 => row0 lo b1 b2
  | 0x1 => row1 lo b1 b2
  | 0x2 => row2 lo b1 b2
  | 0x3 => row3 lo b1 b2
  | 0x4 => row4 lo b1 b2
  | 0x5 => row5 lo b1 b2
  | 0x6 => row6 lo b1 b2
  | 0x7 => row7 lo b1 b2
  | 0x8 => row8 lo b1 b2
  | 0x9 => row9 lo b1 b2
  | 0xA => rowA lo b1 b2
  | 0xB => rowB lo b1 b2
  | 0xC => rowC lo b1 b2
  | 0xD => rowD lo b1 b2
  | 0xE => rowE lo b1 b2
  | _ => rowF lo b1 b2

/-- The length of an instruction, from its opcode byte alone (R100). -/
def lengthOf (opcode : Byte) : Nat := (instrOf opcode 0 0).length

/-- The decoder (R100, R107): look up byte 0, take the operand bytes, give the rest of the list. -/
def decode : List Byte → Except DecodeError (Instr × List Byte)
  | [] => .error .noBytes
  | opcode :: rest =>
    match lengthOf opcode, rest with
    | 1, rest => .ok (instrOf opcode 0 0, rest)
    | 2, b1 :: rest => .ok (instrOf opcode b1 0, rest)
    | 3, b1 :: b2 :: rest => .ok (instrOf opcode b1 b2, rest)
    | _, _ => .error (.truncated opcode)

/-- The opcode byte of each instruction (R106). -/
def Instr.opcode : Instr → Byte
  | .ldaIzx _ => 0xA1
  | .ldaZp _ => 0xA5
  | .ldaImm _ => 0xA9
  | .ldaAbs _ => 0xAD
  | .ldaIzy _ => 0xB1
  | .ldaIzp _ => 0xB2
  | .ldaZpx _ => 0xB5
  | .ldaAby _ => 0xB9
  | .ldaAbx _ => 0xBD
  | .ldxImm _ => 0xA2
  | .ldxZp _ => 0xA6
  | .ldxAbs _ => 0xAE
  | .ldxZpy _ => 0xB6
  | .ldxAby _ => 0xBE
  | .ldyImm _ => 0xA0
  | .ldyZp _ => 0xA4
  | .ldyAbs _ => 0xAC
  | .ldyZpx _ => 0xB4
  | .ldyAbx _ => 0xBC
  | .staIzx _ => 0x81
  | .staZp _ => 0x85
  | .staAbs _ => 0x8D
  | .staIzy _ => 0x91
  | .staIzp _ => 0x92
  | .staZpx _ => 0x95
  | .staAby _ => 0x99
  | .staAbx _ => 0x9D
  | .stxZp _ => 0x86
  | .stxAbs _ => 0x8E
  | .stxZpy _ => 0x96
  | .styZp _ => 0x84
  | .styAbs _ => 0x8C
  | .styZpx _ => 0x94
  | .stzZp _ => 0x64
  | .stzZpx _ => 0x74
  | .stzAbs _ => 0x9C
  | .stzAbx _ => 0x9E
  | .adcIzx _ => 0x61
  | .adcZp _ => 0x65
  | .adcImm _ => 0x69
  | .adcAbs _ => 0x6D
  | .adcIzy _ => 0x71
  | .adcIzp _ => 0x72
  | .adcZpx _ => 0x75
  | .adcAby _ => 0x79
  | .adcAbx _ => 0x7D
  | .sbcIzx _ => 0xE1
  | .sbcZp _ => 0xE5
  | .sbcImm _ => 0xE9
  | .sbcAbs _ => 0xED
  | .sbcIzy _ => 0xF1
  | .sbcIzp _ => 0xF2
  | .sbcZpx _ => 0xF5
  | .sbcAby _ => 0xF9
  | .sbcAbx _ => 0xFD
  | .cmpIzx _ => 0xC1
  | .cmpZp _ => 0xC5
  | .cmpImm _ => 0xC9
  | .cmpAbs _ => 0xCD
  | .cmpIzy _ => 0xD1
  | .cmpIzp _ => 0xD2
  | .cmpZpx _ => 0xD5
  | .cmpAby _ => 0xD9
  | .cmpAbx _ => 0xDD
  | .cpxImm _ => 0xE0
  | .cpxZp _ => 0xE4
  | .cpxAbs _ => 0xEC
  | .cpyImm _ => 0xC0
  | .cpyZp _ => 0xC4
  | .cpyAbs _ => 0xCC
  | .andIzx _ => 0x21
  | .andZp _ => 0x25
  | .andImm _ => 0x29
  | .andAbs _ => 0x2D
  | .andIzy _ => 0x31
  | .andIzp _ => 0x32
  | .andZpx _ => 0x35
  | .andAby _ => 0x39
  | .andAbx _ => 0x3D
  | .oraIzx _ => 0x01
  | .oraZp _ => 0x05
  | .oraImm _ => 0x09
  | .oraAbs _ => 0x0D
  | .oraIzy _ => 0x11
  | .oraIzp _ => 0x12
  | .oraZpx _ => 0x15
  | .oraAby _ => 0x19
  | .oraAbx _ => 0x1D
  | .eorIzx _ => 0x41
  | .eorZp _ => 0x45
  | .eorImm _ => 0x49
  | .eorAbs _ => 0x4D
  | .eorIzy _ => 0x51
  | .eorIzp _ => 0x52
  | .eorZpx _ => 0x55
  | .eorAby _ => 0x59
  | .eorAbx _ => 0x5D
  | .bitZp _ => 0x24
  | .bitAbs _ => 0x2C
  | .bitZpx _ => 0x34
  | .bitAbx _ => 0x3C
  | .bitImm _ => 0x89
  | .tsbZp _ => 0x04
  | .tsbAbs _ => 0x0C
  | .trbZp _ => 0x14
  | .trbAbs _ => 0x1C
  | .aslZp _ => 0x06
  | .aslAcc => 0x0A
  | .aslAbs _ => 0x0E
  | .aslZpx _ => 0x16
  | .aslAbx _ => 0x1E
  | .lsrZp _ => 0x46
  | .lsrAcc => 0x4A
  | .lsrAbs _ => 0x4E
  | .lsrZpx _ => 0x56
  | .lsrAbx _ => 0x5E
  | .rolZp _ => 0x26
  | .rolAcc => 0x2A
  | .rolAbs _ => 0x2E
  | .rolZpx _ => 0x36
  | .rolAbx _ => 0x3E
  | .rorZp _ => 0x66
  | .rorAcc => 0x6A
  | .rorAbs _ => 0x6E
  | .rorZpx _ => 0x76
  | .rorAbx _ => 0x7E
  | .incAcc => 0x1A
  | .incZp _ => 0xE6
  | .incAbs _ => 0xEE
  | .incZpx _ => 0xF6
  | .incAbx _ => 0xFE
  | .decAcc => 0x3A
  | .decZp _ => 0xC6
  | .decAbs _ => 0xCE
  | .decZpx _ => 0xD6
  | .decAbx _ => 0xDE
  | .inx => 0xE8
  | .iny => 0xC8
  | .dex => 0xCA
  | .dey => 0x88
  | .bcc _ => 0x90
  | .bcs _ => 0xB0
  | .beq _ => 0xF0
  | .bne _ => 0xD0
  | .bmi _ => 0x30
  | .bpl _ => 0x10
  | .bvc _ => 0x50
  | .bvs _ => 0x70
  | .bra _ => 0x80
  | .jmpAbs _ => 0x4C
  | .jmpInd _ => 0x6C
  | .jmpIax _ => 0x7C
  | .jsr _ => 0x20
  | .rts => 0x60
  | .brk => 0x00
  | .rti => 0x40
  | .rmb0 _ => 0x07
  | .rmb1 _ => 0x17
  | .rmb2 _ => 0x27
  | .rmb3 _ => 0x37
  | .rmb4 _ => 0x47
  | .rmb5 _ => 0x57
  | .rmb6 _ => 0x67
  | .rmb7 _ => 0x77
  | .smb0 _ => 0x87
  | .smb1 _ => 0x97
  | .smb2 _ => 0xA7
  | .smb3 _ => 0xB7
  | .smb4 _ => 0xC7
  | .smb5 _ => 0xD7
  | .smb6 _ => 0xE7
  | .smb7 _ => 0xF7
  | .bbr0 _ _ => 0x0F
  | .bbr1 _ _ => 0x1F
  | .bbr2 _ _ => 0x2F
  | .bbr3 _ _ => 0x3F
  | .bbr4 _ _ => 0x4F
  | .bbr5 _ _ => 0x5F
  | .bbr6 _ _ => 0x6F
  | .bbr7 _ _ => 0x7F
  | .bbs0 _ _ => 0x8F
  | .bbs1 _ _ => 0x9F
  | .bbs2 _ _ => 0xAF
  | .bbs3 _ _ => 0xBF
  | .bbs4 _ _ => 0xCF
  | .bbs5 _ _ => 0xDF
  | .bbs6 _ _ => 0xEF
  | .bbs7 _ _ => 0xFF
  | .tax => 0xAA
  | .tay => 0xA8
  | .txa => 0x8A
  | .tya => 0x98
  | .tsx => 0xBA
  | .txs => 0x9A
  | .pha => 0x48
  | .pla => 0x68
  | .phx => 0xDA
  | .plx => 0xFA
  | .phy => 0x5A
  | .ply => 0x7A
  | .php => 0x08
  | .plp => 0x28
  | .clc => 0x18
  | .sec => 0x38
  | .cli => 0x58
  | .sei => 0x78
  | .cld => 0xD8
  | .sed => 0xF8
  | .clv => 0xB8
  | .nop02 _ => 0x02
  | .nop22 _ => 0x22
  | .nop42 _ => 0x42
  | .nop44 _ => 0x44
  | .nop54 _ => 0x54
  | .nop5C _ => 0x5C
  | .nop62 _ => 0x62
  | .nop82 _ => 0x82
  | .nopC2 _ => 0xC2
  | .nopD4 _ => 0xD4
  | .nopDC _ => 0xDC
  | .nopE2 _ => 0xE2
  | .nopF4 _ => 0xF4
  | .nopFC _ => 0xFC
  | .nop03 => 0x03
  | .nop0B => 0x0B
  | .nop13 => 0x13
  | .nop1B => 0x1B
  | .nop23 => 0x23
  | .nop2B => 0x2B
  | .nop33 => 0x33
  | .nop3B => 0x3B
  | .nop43 => 0x43
  | .nop4B => 0x4B
  | .nop53 => 0x53
  | .nop5B => 0x5B
  | .nop63 => 0x63
  | .nop6B => 0x6B
  | .nop73 => 0x73
  | .nop7B => 0x7B
  | .nop83 => 0x83
  | .nop8B => 0x8B
  | .nop93 => 0x93
  | .nop9B => 0x9B
  | .nopA3 => 0xA3
  | .nopAB => 0xAB
  | .nopB3 => 0xB3
  | .nopBB => 0xBB
  | .nopC3 => 0xC3
  | .nopD3 => 0xD3
  | .nopE3 => 0xE3
  | .nop => 0xEA
  | .nopEB => 0xEB
  | .nopF3 => 0xF3
  | .nopFB => 0xFB
  | .unimplementedCB => 0xCB
  | .unimplementedDB => 0xDB

/-- The operand bytes in ascending address order (R101, R103). -/
def Operand.bytes : Operand → List Byte
  | .imp | .acc => []
  | .imm b | .zp b | .zpx b | .zpy b | .izx b | .izy b | .izp b => [b]
  | .abs a | .abx a | .aby a | .ind a | .iax a => [loByte a, hiByte a]
  | .rel d => [displacementByte d]
  | .zpr z d => [z, displacementByte d]

/-- The encoder: the bytes of a well-formed instruction, the opcode first (R100, R101). -/
def encode (i : Instr) : List Byte := i.opcode :: i.operand.bytes

/-- The three bytes of an instruction whose first `nbits` bits are those of `w` and whose later bits
are 0; byte k holds bits 8k to 8k+7, so the first byte stands at the lowest address (R53). -/
def tableBytes (nbits w : Nat) : List Byte :=
  let v := w % 2 ^ nbits
  [BitVec.ofNat 8 v, BitVec.ofNat 8 (v / 2 ^ 8), BitVec.ofNat 8 (v / 2 ^ 16)]

/-- The instruction the decoder reads from the word of an opcode-table row (the fixed name). -/
def decodeTableWord (nbits w : Nat) : Option Instr :=
  match decode (tableBytes nbits w) with
  | .ok (i, _) => some i
  | .error _ => none

end Sys2Proof
end

