-- ==== Sys2Proof/Machine/State.lean ====
section
/-! DEFINITION. The state of the machine as plain data (10_state.md): the register file, the bus with its
stores, the hidden and control state, the host-writable configuration and the inputs still to come; the
reasons a step can stop; and the state after power-on and reset. -/

namespace Sys2Proof.Machine

/-- A store's contents: (index, byte) pairs with strictly rising indexes and no entry equal to
`Config.unlistedByte`, which is what an unlisted index reads as. -/
abbrev Memory := List Host.Cell

/-- The physical stores behind the address space (R38, R39, R51). -/
inductive Store where
  | ram | lc1 | lc2 | lch | rom
  deriving DecidableEq, Repr

/-- The direction of a bus access. -/
inductive Dir where
  | read | write
  deriving DecidableEq, Repr

/-- One bus access: always one byte (R52). -/
structure BusAccess where
  dir : Dir
  addr : Word
  value : Byte
  deriving DecidableEq, Repr

/-- A call of a device's write handler: `DeviceWrite(a, b)` (R72, R75). -/
structure DeviceWrite where
  addr : Word
  value : Byte
  deriving DecidableEq, Repr

/-- The bus decoder's state and what lies behind it (R1, R33, R34, R38, R39, R71). -/
structure Bus where
  /-- the parameters of the decoder, which no access changes (R6, R14) -/
  params : Config.BusParams
  /-- $D000-$DFFF of the language card is LC2 (true) or LC1 (R33) -/
  lcBank2 : Bool
  /-- reads of $D000-$FFFF come from language-card RAM (true) or ROM (R33) -/
  lcReadRam : Bool
  /-- writes to $D000-$FFFF land in language-card RAM (true) or are dropped (R33) -/
  lcWriteRam : Bool
  /-- the double-access counter, 0 (false) or 1 (true) (R34) -/
  lcPreWrite : Bool
  /-- $0000-$BFFF, indexed by address (R38) -/
  ram : Memory
  /-- bank 1 of $D000-$DFFF, indexed from 0 (R38) -/
  lc1 : Memory
  /-- bank 2 of $D000-$DFFF, indexed from 0 (R38) -/
  lc2 : Memory
  /-- $E000-$FFFF of the language card, indexed from 0 (R38) -/
  lch : Memory
  /-- the ROM image, indexed by CPU address $C100-$FFFF (R39) -/
  rom : Memory
  /-- the entries `a & 0xFF` of the I/O dispatch table that hold a read handler (R71, R81) -/
  readHandlers : List Byte
  /-- the entries that hold a write handler (R72, R81) -/
  writeHandlers : List Byte
  /-- the model's own: how many bytes device reads have answered (log 7) -/
  deviceReads : Nat
  /-- the bus accesses of the step in order, oldest first (R10; log 15) -/
  accesses : List BusAccess
  /-- output: the calls of write handlers that the step made, in order (R72; log 7) -/
  deviceWrites : List DeviceWrite
  deriving DecidableEq, Repr

/-- The run state (R37). -/
inductive RunState where
  | stopped | running
  deriving DecidableEq, Repr

/-- The kinds of breakpoint (R436). -/
inductive BreakKind where
  | pc | read | write | access
  deriving DecidableEq, Repr

/-- A breakpoint: a single address or an inclusive range (R436). -/
structure Breakpoint where
  address : Word
  kind : BreakKind
  endAddress : Option Word
  deriving DecidableEq, Repr

/-- The last reason the core stopped (R37, R410). -/
inductive StopReason where
  | none
  | paused
  | unimplementedOpcode (opcode : Byte) (pc : Word)
  | brk (pc : Word)
  | breakpoint (kind : BreakKind) (address : Word)
  deriving DecidableEq, Repr

/-- The flags the host can read and write (R433). -/
inductive Flag where
  | n | v | d | i | z | c | b
  deriving DecidableEq, Repr

/-- The 8-bit registers the host can read and write (R433). -/
inductive Reg8 where
  | a | x | y | sp
  deriving DecidableEq, Repr

/-- What the host can do between steps (R80, R81, R411, R430 to R434, R436). -/
inductive HostCommand where
  | run
  | pause
  | reset
  | step
  | load (bank : Option Store) (address : Word) (data : List Byte)
  | writeReg (r : Reg8) (v : Byte)
  | writePc (v : Word)
  | writeFlag (f : Flag) (v : Bool)
  | registerRead (entry : Byte)
  | removeRead (entry : Byte)
  | registerWrite (entry : Byte)
  | removeWrite (entry : Byte)
  | addBreakpoint (b : Breakpoint)
  | removeBreakpoint (b : Breakpoint)
  | clearBreakpoints
  | setBrkHalt (v : Bool)
  deriving DecidableEq, Repr

/-- What the outside world does at one instruction boundary: the host's moves before it, oldest first,
the level of IRQ at it, and whether NMI fell since the boundary before (R14, R401, R421, R422). -/
structure Boundary where
  commands : List HostCommand
  irqLine : Bool
  nmiEdge : Bool
  deriving DecidableEq, Repr

/-- The machine. -/
structure State where
  /-- the parameters of the core, which no step changes (R6, R14) -/
  params : Config.CoreParams
  /-- accumulator (R20) -/
  a : Byte
  /-- index register (R21) -/
  x : Byte
  /-- index register (R22) -/
  y : Byte
  /-- stack pointer (R23) -/
  sp : Byte
  /-- program counter (R24) -/
  pc : Word
  /-- negative (R26) -/
  flagN : Bool
  /-- overflow (R27) -/
  flagV : Bool
  /-- decimal mode (R30) -/
  flagD : Bool
  /-- IRQ disable (R31) -/
  flagI : Bool
  /-- zero (R28) -/
  flagZ : Bool
  /-- carry (R29) -/
  flagC : Bool
  /-- break bookkeeping, read by no instruction (R32) -/
  flagB : Bool
  /-- the NMI latch (R35) -/
  nmiPending : Bool
  /-- CyclePenalty: the last 16-bit indexing of the instruction crossed a page (R36) -/
  penalty : Bool
  /-- the bus decoder and the stores -/
  bus : Bus
  /-- Stopped or Running (R37) -/
  run : RunState
  /-- the last reason the core stopped (R37) -/
  stopReason : StopReason
  /-- the breakpoint set (R436) -/
  breakpoints : List Breakpoint
  /-- `BRK_HALT`, the debugger-break mode of BRK (R6, R243, R411) -/
  brkHalt : Bool
  /-- a reset request is pending (R401, R432) -/
  resetRequest : Bool
  /-- a pause request is pending (R401, R431) -/
  pauseRequest : Bool
  /-- one step from Stopped is being taken (R434) -/
  singleStep : Bool
  /-- the coming boundary is the first after a run or step command (R401, R430) -/
  firstBoundary : Bool
  /-- the inputs of the boundaries to come, the next one first; none means quiet (log 11) -/
  schedule : List Boundary
  /-- the model's own: how many free values the CPU has drawn (log 6) -/
  draws : Nat
  /-- output: the cycle count of the step (R403; log 15) -/
  cycles : Nat
  /-- output: what the step's `tick` told the devices, none where it called none (R404; log 15) -/
  tick : Option Nat
  deriving DecidableEq, Repr

/-- Why the machine stops with a fault. -/
inductive Fault where
  /-- Raised by `step` alone: a step is asked of a Stopped core and no input is left that could start it
  ("In Stopped the core takes no step", R37). Carries the last stop reason. SAFE: the hardware makes no
  step there either (log 10). -/
  | coreStopped (reason : StopReason)
  deriving DecidableEq, Repr

/-- Why a step has no meaning. -/
inductive Refusal where
  /-- Raised by an arm of `exec` whose instruction has no meaning yet: no arm does. SAFE. -/
  | notModelled (mnemonic : String)
  /-- Raised by `step` if the decoder refused the bytes the fetch gave it; by R110 it never does. SAFE. -/
  | undecodable (why : DecodeError)
  /-- Raised by `step` on a machine configured with `AUX_PRESENT` = true, for which the spec defines no
  behaviour (R56, U18: refuse). SAFE. -/
  | auxiliaryBank
  deriving DecidableEq, Repr

/-- The outcome of an instruction or a step. -/
abbrev Result := Host.Outcome State Fault Refusal

/-- The bus after power-on and reset: bank 2, ROM read, counter 0 (R44); `lcWriteRam` false is a DESIGN
CHOICE (log 4), and so is the empty handler table (log 28); nothing is loaded or written. -/
def Bus.reset : Bus where
  params := .spec
  lcBank2 := true
  lcReadRam := false
  lcWriteRam := false
  lcPreWrite := false
  ram := []
  lc1 := []
  lc2 := []
  lch := []
  rom := []
  readHandlers := []
  writeHandlers := []
  deviceReads := 0
  accesses := []
  deviceWrites := []

/-- The machine right after power-on and its reset sequence (R40 to R44, R450, R451). A, X, Y, N, V, Z, C and
SP hold 0 by DESIGN CHOICE (logs 2, 3). The parameters have the values of R6. PC is the reset vector of a ROM
in which nothing is loaded (R39, R42). The core is Stopped until the host says run (log 1). DESIGN CHOICE, where
the spec gives no value at power-on: `stopReason` is None, no handler is registered and no request is pending
(R37, R44; log 28). -/
def State.reset : State where
  params := .spec
  a := 0
  x := 0
  y := 0
  sp := 0
  pc := 0
  flagN := false
  flagV := false
  flagD := false
  flagI := true
  flagZ := false
  flagC := false
  flagB := false
  nmiPending := false
  penalty := false
  bus := Bus.reset
  run := .stopped
  stopReason := .none
  breakpoints := []
  brkHalt := false
  resetRequest := false
  pauseRequest := false
  singleStep := false
  firstBoundary := false
  schedule := []
  draws := 0
  cycles := 0
  tick := none

end Sys2Proof.Machine
end

