-- ==== Sys2Proof/Machine/Flags.lean ====
section
/-! DEFINITION. The flag computations: SetNZ, the status byte, binary and decimal addition and
subtraction, compare, shifts and rotates (00_scope.md R9, 10_state.md R25 to R31, 42_adc_sbc.md,
43_compare_logic_bit.md R183, 44_shift_rotate_incdec.md). -/

namespace Sys2Proof.Machine

/-- `SetNZ(v)` (R9, R26, R28). -/
def setNZ (v : Byte) (s : State) : State :=
  { s with flagN := v.getLsbD 7, flagZ := v == 0 }

/-- Write C (R29). -/
def setC (c : Bool) (s : State) : State := { s with flagC := c }

/-- `Pack(b) = {N, V, 1, b, D, I, Z, C}`, bit 7 first (R25). -/
def pack (b : Bool) (s : State) : Byte :=
  BitVec.ofBool s.flagN ++ BitVec.ofBool s.flagV ++ 1#1 ++ BitVec.ofBool b ++
    BitVec.ofBool s.flagD ++ BitVec.ofBool s.flagI ++ BitVec.ofBool s.flagZ ++ BitVec.ofBool s.flagC

/-- `Unpack(v)`: N, V, D, I, Z, C from bits 7, 6, 3, 2, 1, 0; bits 5 and 4 are discarded and B is
unchanged (R25, R32). -/
def unpack (v : Byte) (s : State) : State :=
  { s with
    flagN := v.getLsbD 7
    flagV := v.getLsbD 6
    flagD := v.getLsbD 3
    flagI := v.getLsbD 2
    flagZ := v.getLsbD 1
    flagC := v.getLsbD 0 }

/-- What an addition or subtraction delivers: the result, C and V. -/
structure Sum where
  r : Byte
  c : Bool
  v : Bool
  deriving DecidableEq, Repr

/-- `AddBin(a, m, c)` (R172). -/
def addBin (a m : Byte) (c : Bool) : Sum :=
  let t := a.toNat + m.toNat + c.toNat
  let r := BitVec.ofNat 8 t
  { r := r, c := decide (255 < t), v := ((a ^^^ r) &&& (m ^^^ r)).getLsbD 7 }

/-- `SubBin(a, m, c) = AddBin(a, m ^ 0xFF, c)` (R175). -/
def subBin (a m : Byte) (c : Bool) : Sum := addBin a (m ^^^ 0xFF) c

/-- The default body of `DEC_ADC` (R174; log 8): the result and C. -/
def decAdcDefault (a m : Byte) (c : Bool) : Byte × Bool :=
  let lo := a.toNat % 16 + m.toNat % 16 + c.toNat
  let lo := if 9 < lo then lo + 6 else lo
  let t := a.toNat / 16 * 16 + m.toNat / 16 * 16 + lo
  let t := if 0xA0 ≤ t then t + 0x60 else t
  (BitVec.ofNat 8 t, decide (0xFF < t))

/-- The default body of `DEC_SBC` (R177; log 8): the result and C. -/
def decSbcDefault (a m : Byte) (c : Bool) : Byte × Bool :=
  let borrow : Int := 1 - c.toNat
  let d : Int := a.toNat - m.toNat - borrow
  let al : Int := (a.toNat % 16 : Nat) - (m.toNat % 16 : Nat) - borrow
  let t := if d < 0 then d - 0x60 else d
  let t := if al < 0 then t - 0x06 else t
  (BitVec.ofInt 8 t, decide (0 ≤ d))

/-- A configured decimal function: the first case listed for the operands, else the default body (R6; log 26).
-/
def configured (cases : List Config.DecCase) (default : Byte → Byte → Bool → Byte × Bool) (a m : Byte)
    (c : Bool) : Byte × Bool :=
  match cases.find? fun e => e.a == a && e.m == m && e.c == c with
  | some e => (e.r, e.cOut)
  | none => default a m c

/-- `DEC_ADC(a, m, c)` of a configuration (R6, R174). -/
def decAdc (cases : List Config.DecCase) : Byte → Byte → Bool → Byte × Bool :=
  configured cases decAdcDefault

/-- `DEC_SBC(a, m, c)` of a configuration (R6, R177). -/
def decSbc (cases : List Config.DecCase) : Byte → Byte → Bool → Byte × Bool :=
  configured cases decSbcDefault

/-- A valid BCD byte: both nibbles at most 9 (R12). -/
def isBcd (v : Byte) : Bool := decide (v.toNat % 16 ≤ 9) && decide (v.toNat / 16 ≤ 9)

/-- The effect of a binary sum on A and the flags (R170, R173). -/
def takeSum (r : Sum) (s : State) : State :=
  setNZ r.r { s with a := r.r, flagC := r.c, flagV := r.v }

/-- The effect of a decimal sum on A and the flags: V is the draw `DEC_V`, a free value (R176; log 6). -/
def takeDecimal (r : Byte × Bool) (s : State) : State :=
  setNZ r.1 { s with a := r.1, flagC := r.2, flagV := Config.decV s.draws, draws := s.draws + 1 }

/-- `Compare(r, m)` (R183). -/
def compareByte (r m : Byte) (s : State) : State :=
  setNZ (r - m) (setC (decide (m.toNat ≤ r.toNat)) s)

/-- ASL: the result of `m`, with C and N, Z set (R200). -/
def aslByte (m : Byte) (s : State) : Byte × State :=
  let r := m <<< 1
  (r, setNZ r (setC (m.getLsbD 7) s))

/-- LSR (R201). -/
def lsrByte (m : Byte) (s : State) : Byte × State :=
  let r := m >>> 1
  (r, setNZ r (setC (m.getLsbD 0) s))

/-- ROL: C enters at bit 0 (R202). -/
def rolByte (m : Byte) (s : State) : Byte × State :=
  let r := (m <<< 1) ||| (BitVec.ofBool s.flagC).setWidth 8
  (r, setNZ r (setC (m.getLsbD 7) s))

/-- ROR: C enters at bit 7 (R203). -/
def rorByte (m : Byte) (s : State) : Byte × State :=
  let r := (m >>> 1) ||| ((BitVec.ofBool s.flagC).setWidth 8 <<< 7)
  (r, setNZ r (setC (m.getLsbD 0) s))

/-- INC (R204): C and V are unchanged. -/
def incByte (m : Byte) (s : State) : Byte × State :=
  let r := m + 1
  (r, setNZ r s)

/-- DEC (R205): C and V are unchanged. -/
def decByte (m : Byte) (s : State) : Byte × State :=
  let r := m - 1
  (r, setNZ r s)

/-- TSB: Z from `A & m`, the byte with A's bits set (R188). -/
def tsbByte (m : Byte) (s : State) : Byte × State :=
  (m ||| s.a, { s with flagZ := (s.a &&& m) == 0 })

/-- TRB: Z from `A & m`, the byte with A's bits cleared (R189). -/
def trbByte (m : Byte) (s : State) : Byte × State :=
  (m &&& (s.a ^^^ 0xFF), { s with flagZ := (s.a &&& m) == 0 })

/-- The 8-bit mask of bit n (R254). -/
def bitMask (n : Nat) : Byte := 1 <<< n

/-- RMBn: the byte with bit n cleared; no flag (R250). -/
def rmbByte (n : Nat) (m : Byte) (s : State) : Byte × State := (m &&& ~~~bitMask n, s)

/-- SMBn: the byte with bit n set; no flag (R251). -/
def smbByte (n : Nat) (m : Byte) (s : State) : Byte × State := (m ||| bitMask n, s)

end Sys2Proof.Machine
end

