-- ==== Sys2Proof/Machine/Ops.lean ====
section
/-! DEFINITION. The named operations over memory and registers: the stores, the bus decoder with its
language card and I/O dispatch (20_memory.md), the stack, the fetch (00_scope.md R9), halting
(60_exceptions.md R410), taking an interrupt and returning from one (R423, 46_subroutine_brk_rti.md
R242, R244), and the reset sequence (70_reset_and_hazards.md R451). -/

namespace Sys2Proof.Machine

/-! ### One store -/

/-- The byte at an index of a store; an unlisted index reads as `Config.unlistedByte` (log 5). -/
def Memory.read : Memory → Nat → Byte
  | [], _ => Config.unlistedByte
  | (k, w) :: m, i => if i = k then w else Memory.read m i

/-- Write a byte at an index of a store, keeping the canonical form: writing the unlisted byte removes
the entry. -/
def Memory.write : Memory → Nat → Byte → Memory
  | [], i, v => if v = Config.unlistedByte then [] else [(i, v)]
  | (k, w) :: m, i, v =>
    if i < k then
      if v = Config.unlistedByte then (k, w) :: m else (i, v) :: (k, w) :: m
    else if i = k then
      if v = Config.unlistedByte then m else (k, v) :: m
    else (k, w) :: Memory.write m i v

/-- Every index of a store is above `n`, strictly rising, and no entry holds the unlisted byte. -/
def Memory.wfAbove : Memory → Option Nat → Bool
  | [], _ => true
  | (k, w) :: m, lower =>
    (match lower with
      | none => true
      | some n => decide (n < k)) && w != Config.unlistedByte && Memory.wfAbove m (some k)

/-- The canonical form of a store: indexes strictly rising, no entry equal to the unlisted byte. -/
def Memory.wf (m : Memory) : Bool := m.wfAbove none

/-! ### The stores of the bus -/

/-- The contents of a store (R38, R39). -/
def Bus.store (b : Bus) : Store → Memory
  | .ram => b.ram
  | .lc1 => b.lc1
  | .lc2 => b.lc2
  | .lch => b.lch
  | .rom => b.rom

/-- Replace the contents of a store. -/
def Bus.setStore (b : Bus) (st : Store) (m : Memory) : Bus :=
  match st with
  | .ram => { b with ram := m }
  | .lc1 => { b with lc1 := m }
  | .lc2 => { b with lc2 := m }
  | .lch => { b with lch := m }
  | .rom => { b with rom := m }

/-- One byte of a store, with no bus access. -/
def Bus.byteAt (b : Bus) (st : Store) (i : Nat) : Byte := (b.store st).read i

/-- Write one byte of a store. -/
def Bus.poke (b : Bus) (st : Store) (i : Nat) (v : Byte) : Bus :=
  b.setStore st ((b.store st).write i v)

/-! ### The bus decoder -/

/-- The I/O page $C000-$C0FF (R57). -/
def isIo (a : Word) : Bool := decide (0xC000 ≤ a.toNat) && decide (a.toNat ≤ 0xC0FF)

/-- The sixteen language-card switch addresses `LC_BASE + k` (R66). -/
def Bus.isSwitch (b : Bus) (a : Word) : Bool :=
  decide (b.params.lcBase.toNat ≤ a.toNat) && decide (a.toNat ≤ b.params.lcBase.toNat + 15)

/-- The bank of $D000-$DFFF that `lcBank2` selects (R33, R63). -/
def Bus.bank (b : Bus) : Store := if b.lcBank2 then .lc2 else .lc1

/-- The language-card cell behind an address of $D000-$FFFF (R57, R60, R61). -/
def Bus.cardCell (b : Bus) (a : Word) : Store × Nat :=
  if a.toNat ≤ 0xDFFF then (b.bank, a.toNat - 0xD000) else (.lch, a.toNat - 0xE000)

/-- The store and index that a read of an address comes from; none in the I/O page (R57, R60). -/
def Bus.readMap (b : Bus) (a : Word) : Option (Store × Nat) :=
  if a.toNat ≤ 0xBFFF then some (.ram, a.toNat)
  else if a.toNat ≤ 0xC0FF then none
  else if a.toNat ≤ 0xCFFF then some (.rom, a.toNat)
  else if b.lcReadRam then some (b.cardCell a)
  else some (.rom, a.toNat)

/-- The store and index that a write to an address lands in; none in the I/O page and where the write is
dropped (R57, R61). -/
def Bus.writeMap (b : Bus) (a : Word) : Option (Store × Nat) :=
  if a.toNat ≤ 0xBFFF then some (.ram, a.toNat)
  else if a.toNat ≤ 0xCFFF then none
  else if b.lcWriteRam then some (b.cardCell a)
  else none

/-- `LCAccess(a, isWrite)` (R67): bank and read source follow every access; an even address disables; a
write to an odd address resets the counter; an odd read counts, and the second in a row enables. -/
def Bus.lcAccess (b : Bus) (a : Word) (dir : Dir) : Bus :=
  let b := { b with
    lcBank2 := !a.getLsbD 3
    lcReadRam := a.getLsbD 1 == a.getLsbD 0 }
  if !a.getLsbD 0 then { b with lcPreWrite := false, lcWriteRam := false }
  else match dir with
    | .write => { b with lcPreWrite := false }
    | .read => { b with lcWriteRam := b.lcWriteRam || b.lcPreWrite, lcPreWrite := true }

/-- `IORead(a)` (R71, R73): a switch, a device handler (whose byte is a free value, R75; log 7), or the
default. -/
def Bus.ioRead (b : Bus) (a : Word) : Byte × Bus :=
  if b.isSwitch a then (b.params.lcSwitchReadValue, b.lcAccess a .read)
  else if b.readHandlers.contains (loByte a) then
    (Config.deviceByte b.deviceReads a, { b with deviceReads := b.deviceReads + 1 })
  else (b.params.ioDefault, b)

/-- `IOWrite(a, v)` (R72, R73): a switch, which ignores the byte (R70); a device handler, which is called with
the address and the byte and changes device state only (R75), so that the call itself is all the core can tell
(log 7); or dropped. -/
def Bus.ioWrite (b : Bus) (a : Word) (v : Byte) : Bus :=
  if b.isSwitch a then b.lcAccess a .write
  else if b.writeHandlers.contains (loByte a) then
    { b with deviceWrites := b.deviceWrites ++ [⟨a, v⟩] }
  else b

/-- Append to the ordered list of bus accesses of the step (R10). -/
def Bus.note (b : Bus) (x : BusAccess) : Bus := { b with accesses := b.accesses ++ [x] }

/-- A read without its entry in the access list. -/
def Bus.readRaw (b : Bus) (a : Word) : Byte × Bus :=
  match b.readMap a with
  | some (st, i) => (b.byteAt st i, b)
  | none => b.ioRead a

/-- `MemRead(addr, 1)` at the bus (R60). -/
def Bus.read (b : Bus) (a : Word) : Byte × Bus :=
  let r := b.readRaw a
  (r.1, r.2.note ⟨.read, a, r.1⟩)

/-- A write without its entry in the access list. -/
def Bus.writeRaw (b : Bus) (a : Word) (v : Byte) : Bus :=
  if isIo a then b.ioWrite a v
  else match b.writeMap a with
    | some (st, i) => b.poke st i v
    | none => b

/-- `MemWrite(addr, 1, v)` at the bus (R61). -/
def Bus.write (b : Bus) (a : Word) (v : Byte) : Bus :=
  (b.writeRaw a v).note ⟨.write, a, v⟩

/-- The byte a read of an address would give, with no side effect; none in the I/O page. -/
def Bus.peek (b : Bus) (a : Word) : Option Byte :=
  (b.readMap a).map fun c => b.byteAt c.1 c.2

/-! ### The core's accesses -/

/-- `MemRead(addr, 1)` (R9, R60). -/
def memRead (a : Word) (s : State) : Byte × State :=
  let r := s.bus.read a
  (r.1, { s with bus := r.2 })

/-- `MemWrite(addr, 1, v)` (R9, R61). -/
def memWrite (a : Word) (v : Byte) (s : State) : State :=
  { s with bus := s.bus.write a v }

/-- `MemRead(addr, 2)`: low byte first, the second address modulo 65536 (R9). -/
def memReadWord (a : Word) (s : State) : Word × State :=
  let l := memRead a s
  let h := memRead (a + 1) l.2
  (w16 l.1 h.1, h.2)

/-- `ReadZP16(z)`: both bytes from page zero (R9). -/
def readZP16 (z : Byte) (s : State) : Word × State :=
  let l := memRead (zeroPage z) s
  let h := memRead (zeroPage (z + 1)) l.2
  (w16 l.1 h.1, h.2)

/-- Write PC. -/
def setPc (a : Word) (s : State) : State := { s with pc := a }

/-- `Fetch8()` (R9, R24). -/
def fetch8 (s : State) : Byte × State :=
  let r := memRead s.pc s
  (r.1, setPc (s.pc + 1) r.2)

/-- The bytes of the instruction at PC, each fetched with `Fetch8` in ascending order (R100, R103, R130,
R402); how many follows from the opcode byte alone. -/
def fetchInstr (s : State) : List Byte × State :=
  let op := fetch8 s
  match lengthOf op.1 with
  | 1 => ([op.1], op.2)
  | 2 =>
    let b1 := fetch8 op.2
    ([op.1, b1.1], b1.2)
  | _ =>
    let b1 := fetch8 op.2
    let b2 := fetch8 b1.2
    ([op.1, b1.1, b2.1], b2.2)

/-- The address of the stack byte at SP: `0x0100 + SP` (R23). -/
def stackAddr (sp : Byte) : Word := 0x0100 + sp.setWidth 16

/-- `Push(v)`: write, then decrement SP modulo 256 (R9, R23). -/
def push (v : Byte) (s : State) : State :=
  let t := memWrite (stackAddr s.sp) v s
  { t with sp := s.sp - 1 }

/-- `Pull()`: increment SP modulo 256, then read (R9, R23). -/
def pull (s : State) : Byte × State :=
  memRead (stackAddr (s.sp + 1)) { s with sp := s.sp + 1 }

/-- Push a 16-bit value, the high byte first (R53). -/
def pushWord (w : Word) (s : State) : State := push (loByte w) (push (hiByte w) s)

/-- Pull a 16-bit value, the low byte first (R53). -/
def pullWord (s : State) : Word × State :=
  let l := pull s
  let h := pull l.2
  (w16 l.1 h.1, h.2)

/-! ### Halting, interrupts, reset -/

/-- `raise Halt(reason)`: the core is Stopped and says why; nothing else changes (R410). -/
def halt (r : StopReason) (s : State) : State := { s with run := .stopped, stopReason := r }

/-- Taking an interrupt or BRK: push `ret` (high byte first), B and the status byte with bit 4 = `b`, set
I, clear D, and load PC from the vector through the decoder (R242, R423). -/
def enterInterrupt (ret : Word) (b : Bool) (vec : Word) (s : State) : State :=
  let s := { pushWord ret s with flagB := b }
  let s := { push (pack b s) s with flagI := true, flagD := false }
  let v := memReadWord vec s
  setPc v.1 v.2

/-- Returning from an interrupt: pull the status byte and unpack it, pull PC with nothing added (R244). -/
def returnFromInterrupt (s : State) : State :=
  let p := pull s
  let t := pullWord (unpack p.1 p.2)
  setPc t.1 t.2

/-- The reset sequence (R451, R452): the bus state first, then the flags, SP and PC from the vector. SP
and lcWriteRam become the configured values, or free values where the configuration leaves them unspecified
(logs 3 and 4). -/
def resetSequence (s : State) : State :=
  let s := { s with
    bus := { s.bus with
      lcBank2 := true
      lcReadRam := false
      lcPreWrite := false
      lcWriteRam := s.params.resetLcWriteRam.getD (Config.resetLcWriteRam s.draws) }
    nmiPending := false
    flagI := true
    flagD := false
    flagB := false
    sp := s.params.resetSp.getD (Config.resetSp s.draws)
    draws := s.draws + 1
    penalty := false }
  let v := memReadWord s.params.vecReset s
  setPc v.1 v.2

end Sys2Proof.Machine
end

