-- ==== Sys2Proof/Machine/Operands.lean ====
section
/-! DEFINITION. The Addressing-Mode Resolver (40_addressing_modes.md): for each mode the bus reads it makes,
the address, operand or target it delivers, and the page-cross bit; the shapes in which instructions
use what it delivers (read, read-modify-write, branch); and the cycle charges
(70_reset_and_hazards.md R471). On entry PC is past the instruction's bytes (R130). -/

namespace Sys2Proof.Machine

/-- Two addresses lie in different pages (R12, R147). -/
def crosses (a b : Word) : Bool := hiByte a != hiByte b

/-- The sum of a 16-bit base and an index, with the page-cross bit recorded (R139, R147). -/
def indexed (base : Word) (i : Byte) (s : State) : Word × State :=
  let ea := base + i.setWidth 16
  (ea, { s with penalty := crosses base ea })

/-- Zero-Page (R134). -/
def eaZp (z : Byte) (s : State) : Word × State := (zeroPage z, s)

/-- Zero-Page,X: the sum wraps inside page zero (R135). -/
def eaZpx (z : Byte) (s : State) : Word × State := (zeroPage (z + s.x), s)

/-- Zero-Page,Y (R136). -/
def eaZpy (z : Byte) (s : State) : Word × State := (zeroPage (z + s.y), s)

/-- Absolute (R138). -/
def eaAbs (a : Word) (s : State) : Word × State := (a, s)

/-- Absolute,X (R139). -/
def eaAbx (a : Word) (s : State) : Word × State := indexed a s.x s

/-- Absolute,Y (R140). -/
def eaAby (a : Word) (s : State) : Word × State := indexed a s.y s

/-- (Indirect,X): index first, then the pointer, both its bytes from page zero (R142). -/
def eaIzx (z : Byte) (s : State) : Word × State := readZP16 (z + s.x) s

/-- (Indirect),Y: the pointer first, then the index (R143). -/
def eaIzy (z : Byte) (s : State) : Word × State :=
  let p := readZP16 z s
  indexed p.1 p.2.y p.2

/-- (Zero-Page-Indirect) (R144). -/
def eaIzp (z : Byte) (s : State) : Word × State := readZP16 z s

/-- Indirect, the target of JMP (abs): the pointer's high byte comes from the next address, or, under
`JMP_IND_PAGE_WRAP`, from the same page (R141). -/
def targetInd (p : Word) (s : State) : Word × State :=
  let next := if s.params.jmpIndPageWrap then w16 (loByte p + 1) (hiByte p) else p + 1
  let l := memRead p s
  let h := memRead next l.2
  (w16 l.1 h.1, h.2)

/-- Absolute-Indexed-Indirect, the target of JMP (abs,X): 16-bit index, no penalty (R145). -/
def targetIax (base : Word) (s : State) : Word × State := memReadWord (base + s.x.setWidth 16) s

/-- Relative: the target, from the address after the instruction (R137). -/
def targetRel (d : Int) (s : State) : Word := s.pc + BitVec.ofInt 16 d

/-- The effective address an operand names and the state after the resolver's reads; none for a mode that
has no effective address (R131 to R133), for jump pointers and for branches. -/
def effectiveAddress : Operand → State → Option (Word × State)
  | .zp z, s => some (eaZp z s)
  | .zpx z, s => some (eaZpx z s)
  | .zpy z, s => some (eaZpy z s)
  | .abs a, s => some (eaAbs a s)
  | .abx a, s => some (eaAbx a s)
  | .aby a, s => some (eaAby a s)
  | .izx z, s => some (eaIzx z s)
  | .izy z, s => some (eaIzy z s)
  | .izp z, s => some (eaIzp z s)
  | .imp, _ | .acc, _ | .imm _, _ | .ind _, _ | .iax _, _ | .rel _, _ | .zpr _ _, _ => none

/-- The byte an operand delivers and the state after its reads: the immediate byte, A, or the byte read at
the effective address (R132, R133, R130). -/
def operandByte (o : Operand) (s : State) : Option (Byte × State) :=
  match o with
  | .imm v => some (v, s)
  | .acc => some (s.a, s)
  | o => (effectiveAddress o s).map fun ea => memRead ea.1 ea.2

/-! ### Shapes -/

/-- Read the byte at a resolved address. -/
def readAt (ea : Word × State) : Byte × State := memRead ea.1 ea.2

/-- Write a byte at a resolved address: no read of it (R163). -/
def writeAt (v : Byte) (ea : Word × State) : State := memWrite ea.1 v ea.2

/-- Read-modify-write at a resolved address: one read, then one write to the same address (R210). -/
def modifyAt (f : Byte → State → Byte × State) (ea : Word × State) : State :=
  let m := memRead ea.1 ea.2
  let r := f m.1 m.2
  memWrite ea.1 r.1 r.2

/-- The accumulator form: the result goes to A and the bus is not accessed (R132). -/
def modifyA (f : Byte → State → Byte × State) (s : State) : State :=
  let r := f s.a s
  { r.2 with a := r.1 }

/-- Insert before the last element: where the data read of BBR and BBS stands among the accesses. -/
def insertBeforeLast {α : Type} (x : α) : List α → List α
  | [] => [x]
  | [y] => [x, y]
  | y :: ys => y :: insertBeforeLast x ys

/-- The data read of a zero-page-relative instruction. Its place in the access order is before the fetch of
the displacement byte (R146), which the fetch has already made: the read itself is of page-zero RAM, so
only the order of the two entries in the access list tells the difference (log 14). -/
def readZpr (z : Byte) (s : State) : Byte × State :=
  let a := zeroPage z
  let r := s.bus.readRaw a
  (r.1, { s with bus := { r.2 with accesses := insertBeforeLast ⟨.read, a, r.1⟩ r.2.accesses } })

/-! ### Cycle charges (R471) -/

/-- The base count alone. -/
def charge (n : Nat) (s : State) : State := { s with cycles := n }

/-- The base count, plus 1 if a page was crossed. -/
def chargeCross (n : Nat) (s : State) : State := { s with cycles := n + s.penalty.toNat }

/-- The base count, plus 1 if D = 1: ADC and SBC. -/
def chargeDecimal (n : Nat) (s : State) : State := { s with cycles := n + s.flagD.toNat }

/-- The base count, plus 1 if a page was crossed, plus 1 if D = 1: ADC and SBC. -/
def chargeCrossDecimal (n : Nat) (s : State) : State :=
  { s with cycles := n + s.penalty.toNat + s.flagD.toNat }

/-- A branch whose not-taken count is `n`: if taken, PC becomes the target and the count grows by 1, and by
1 more if the target lies in another page than the address after the instruction (R220, R252). -/
def branchIf (cond : Bool) (d : Int) (n : Nat) (s : State) : State :=
  let target := targetRel d s
  if cond then setPc target (charge (n + 1 + (crosses s.pc target).toNat) s) else charge n s

end Sys2Proof.Machine
end

