-- ==== Sys2Proof/Machine/AddSub.lean ====
section
/-! DEFINITION. ADC and SBC, binary and decimal (42_adc_sbc.md R170 to R178). D selects the mode (R171).
The shared operations stand first, then one meaning for each row of the opcode table. -/

namespace Sys2Proof.Machine

/-- ADC of the operand (R170). -/
def adc (r : Byte × State) : State :=
  let s := r.2
  if s.flagD then takeDecimal (decAdc s.params.decAdc s.a r.1 s.flagC) s else takeSum (addBin s.a r.1 s.flagC) s

/-- SBC of the operand (R173). -/
def sbc (r : Byte × State) : State :=
  let s := r.2
  if s.flagD then takeDecimal (decSbc s.params.decSbc s.a r.1 s.flagC) s else takeSum (subBin s.a r.1 s.flagC) s

/-- $61 `ADC (z,X)`: R170, R142. -/
def execAdcIzx (z : Byte) (s : State) : Result := .next (chargeDecimal 6 (adc (readAt (eaIzx z s))))

/-- $65 `ADC z`: R170, R134. -/
def execAdcZp (z : Byte) (s : State) : Result := .next (chargeDecimal 3 (adc (readAt (eaZp z s))))

/-- $69 `ADC #v`: R170, R133. -/
def execAdcImm (v : Byte) (s : State) : Result := .next (chargeDecimal 2 (adc (v, s)))

/-- $6D `ADC a`: R170, R138. -/
def execAdcAbs (a : Word) (s : State) : Result := .next (chargeDecimal 4 (adc (readAt (eaAbs a s))))

/-- $71 `ADC (z),Y`: R170, R143. -/
def execAdcIzy (z : Byte) (s : State) : Result :=
  .next (chargeCrossDecimal 5 (adc (readAt (eaIzy z s))))

/-- $72 `ADC (z)`: R170, R144. -/
def execAdcIzp (z : Byte) (s : State) : Result := .next (chargeDecimal 5 (adc (readAt (eaIzp z s))))

/-- $75 `ADC z,X`: R170, R135. -/
def execAdcZpx (z : Byte) (s : State) : Result := .next (chargeDecimal 4 (adc (readAt (eaZpx z s))))

/-- $79 `ADC a,Y`: R170, R140. -/
def execAdcAby (a : Word) (s : State) : Result :=
  .next (chargeCrossDecimal 4 (adc (readAt (eaAby a s))))

/-- $7D `ADC a,X`: R170, R139. -/
def execAdcAbx (a : Word) (s : State) : Result :=
  .next (chargeCrossDecimal 4 (adc (readAt (eaAbx a s))))

/-- $E1 `SBC (z,X)`: R173, R142. -/
def execSbcIzx (z : Byte) (s : State) : Result := .next (chargeDecimal 6 (sbc (readAt (eaIzx z s))))

/-- $E5 `SBC z`: R173, R134. -/
def execSbcZp (z : Byte) (s : State) : Result := .next (chargeDecimal 3 (sbc (readAt (eaZp z s))))

/-- $E9 `SBC #v`: R173, R133. -/
def execSbcImm (v : Byte) (s : State) : Result := .next (chargeDecimal 2 (sbc (v, s)))

/-- $ED `SBC a`: R173, R138. -/
def execSbcAbs (a : Word) (s : State) : Result := .next (chargeDecimal 4 (sbc (readAt (eaAbs a s))))

/-- $F1 `SBC (z),Y`: R173, R143. -/
def execSbcIzy (z : Byte) (s : State) : Result :=
  .next (chargeCrossDecimal 5 (sbc (readAt (eaIzy z s))))

/-- $F2 `SBC (z)`: R173, R144. -/
def execSbcIzp (z : Byte) (s : State) : Result := .next (chargeDecimal 5 (sbc (readAt (eaIzp z s))))

/-- $F5 `SBC z,X`: R173, R135. -/
def execSbcZpx (z : Byte) (s : State) : Result := .next (chargeDecimal 4 (sbc (readAt (eaZpx z s))))

/-- $F9 `SBC a,Y`: R173, R140. -/
def execSbcAby (a : Word) (s : State) : Result :=
  .next (chargeCrossDecimal 4 (sbc (readAt (eaAby a s))))

/-- $FD `SBC a,X`: R173, R139. -/
def execSbcAbx (a : Word) (s : State) : Result :=
  .next (chargeCrossDecimal 4 (sbc (readAt (eaAbx a s))))

end Sys2Proof.Machine
end

