-- ==== Sys2Proof/Machine/BitZeroPage.lean ====
section
/-! DEFINITION. Zero-page bit instructions RMB, SMB, BBR, BBS (47_bit_zero_page.md R250 to R254).
The shared operations stand first, then one meaning for each row of the opcode table. -/

namespace Sys2Proof.Machine

/-- BBRn: branch if bit n of the zero-page byte is 0 (R252). -/
def branchBitReset (n : Nat) (z : Byte) (d : Int) (s : State) : State :=
  let m := readZpr z s
  branchIf (!m.1.getLsbD n) d 5 m.2

/-- BBSn: branch if bit n of the zero-page byte is 1 (R253). -/
def branchBitSet (n : Nat) (z : Byte) (d : Int) (s : State) : State :=
  let m := readZpr z s
  branchIf (m.1.getLsbD n) d 5 m.2

/-- $07 `RMB0 z`: R250, R134. -/
def execRmb0 (z : Byte) (s : State) : Result := .next (charge 5 (modifyAt (rmbByte 0) (eaZp z s)))

/-- $17 `RMB1 z`: R250, R134. -/
def execRmb1 (z : Byte) (s : State) : Result := .next (charge 5 (modifyAt (rmbByte 1) (eaZp z s)))

/-- $27 `RMB2 z`: R250, R134. -/
def execRmb2 (z : Byte) (s : State) : Result := .next (charge 5 (modifyAt (rmbByte 2) (eaZp z s)))

/-- $37 `RMB3 z`: R250, R134. -/
def execRmb3 (z : Byte) (s : State) : Result := .next (charge 5 (modifyAt (rmbByte 3) (eaZp z s)))

/-- $47 `RMB4 z`: R250, R134. -/
def execRmb4 (z : Byte) (s : State) : Result := .next (charge 5 (modifyAt (rmbByte 4) (eaZp z s)))

/-- $57 `RMB5 z`: R250, R134. -/
def execRmb5 (z : Byte) (s : State) : Result := .next (charge 5 (modifyAt (rmbByte 5) (eaZp z s)))

/-- $67 `RMB6 z`: R250, R134. -/
def execRmb6 (z : Byte) (s : State) : Result := .next (charge 5 (modifyAt (rmbByte 6) (eaZp z s)))

/-- $77 `RMB7 z`: R250, R134. -/
def execRmb7 (z : Byte) (s : State) : Result := .next (charge 5 (modifyAt (rmbByte 7) (eaZp z s)))

/-- $87 `SMB0 z`: R251, R134. -/
def execSmb0 (z : Byte) (s : State) : Result := .next (charge 5 (modifyAt (smbByte 0) (eaZp z s)))

/-- $97 `SMB1 z`: R251, R134. -/
def execSmb1 (z : Byte) (s : State) : Result := .next (charge 5 (modifyAt (smbByte 1) (eaZp z s)))

/-- $A7 `SMB2 z`: R251, R134. -/
def execSmb2 (z : Byte) (s : State) : Result := .next (charge 5 (modifyAt (smbByte 2) (eaZp z s)))

/-- $B7 `SMB3 z`: R251, R134. -/
def execSmb3 (z : Byte) (s : State) : Result := .next (charge 5 (modifyAt (smbByte 3) (eaZp z s)))

/-- $C7 `SMB4 z`: R251, R134. -/
def execSmb4 (z : Byte) (s : State) : Result := .next (charge 5 (modifyAt (smbByte 4) (eaZp z s)))

/-- $D7 `SMB5 z`: R251, R134. -/
def execSmb5 (z : Byte) (s : State) : Result := .next (charge 5 (modifyAt (smbByte 5) (eaZp z s)))

/-- $E7 `SMB6 z`: R251, R134. -/
def execSmb6 (z : Byte) (s : State) : Result := .next (charge 5 (modifyAt (smbByte 6) (eaZp z s)))

/-- $F7 `SMB7 z`: R251, R134. -/
def execSmb7 (z : Byte) (s : State) : Result := .next (charge 5 (modifyAt (smbByte 7) (eaZp z s)))

/-- $0F `BBR0 z,d`: R252, R146. -/
def execBbr0 (z : Byte) (d : Int) (s : State) : Result := .next (branchBitReset 0 z d s)

/-- $1F `BBR1 z,d`: R252, R146. -/
def execBbr1 (z : Byte) (d : Int) (s : State) : Result := .next (branchBitReset 1 z d s)

/-- $2F `BBR2 z,d`: R252, R146. -/
def execBbr2 (z : Byte) (d : Int) (s : State) : Result := .next (branchBitReset 2 z d s)

/-- $3F `BBR3 z,d`: R252, R146. -/
def execBbr3 (z : Byte) (d : Int) (s : State) : Result := .next (branchBitReset 3 z d s)

/-- $4F `BBR4 z,d`: R252, R146. -/
def execBbr4 (z : Byte) (d : Int) (s : State) : Result := .next (branchBitReset 4 z d s)

/-- $5F `BBR5 z,d`: R252, R146. -/
def execBbr5 (z : Byte) (d : Int) (s : State) : Result := .next (branchBitReset 5 z d s)

/-- $6F `BBR6 z,d`: R252, R146. -/
def execBbr6 (z : Byte) (d : Int) (s : State) : Result := .next (branchBitReset 6 z d s)

/-- $7F `BBR7 z,d`: R252, R146. -/
def execBbr7 (z : Byte) (d : Int) (s : State) : Result := .next (branchBitReset 7 z d s)

/-- $8F `BBS0 z,d`: R253, R146. -/
def execBbs0 (z : Byte) (d : Int) (s : State) : Result := .next (branchBitSet 0 z d s)

/-- $9F `BBS1 z,d`: R253, R146. -/
def execBbs1 (z : Byte) (d : Int) (s : State) : Result := .next (branchBitSet 1 z d s)

/-- $AF `BBS2 z,d`: R253, R146. -/
def execBbs2 (z : Byte) (d : Int) (s : State) : Result := .next (branchBitSet 2 z d s)

/-- $BF `BBS3 z,d`: R253, R146. -/
def execBbs3 (z : Byte) (d : Int) (s : State) : Result := .next (branchBitSet 3 z d s)

/-- $CF `BBS4 z,d`: R253, R146. -/
def execBbs4 (z : Byte) (d : Int) (s : State) : Result := .next (branchBitSet 4 z d s)

/-- $DF `BBS5 z,d`: R253, R146. -/
def execBbs5 (z : Byte) (d : Int) (s : State) : Result := .next (branchBitSet 5 z d s)

/-- $EF `BBS6 z,d`: R253, R146. -/
def execBbs6 (z : Byte) (d : Int) (s : State) : Result := .next (branchBitSet 6 z d s)

/-- $FF `BBS7 z,d`: R253, R146. -/
def execBbs7 (z : Byte) (d : Int) (s : State) : Result := .next (branchBitSet 7 z d s)

end Sys2Proof.Machine
end

