-- ==== Sys2Proof/Machine/BranchJump.lean ====
section
/-! DEFINITION. Branches and jumps (45_branch_jump.md R220 to R232).
The shared operations stand first, then one meaning for each row of the opcode table. -/

namespace Sys2Proof.Machine

/-- `PC <- target` with the resolver's target (R231, R232). -/
def jumpTo (t : Word × State) : State := setPc t.1 t.2

/-- $90 `BCC d`: R221, R137. -/
def execBcc (d : Int) (s : State) : Result := .next (branchIf (!s.flagC) d 2 s)

/-- $B0 `BCS d`: R222, R137. -/
def execBcs (d : Int) (s : State) : Result := .next (branchIf s.flagC d 2 s)

/-- $F0 `BEQ d`: R223, R137. -/
def execBeq (d : Int) (s : State) : Result := .next (branchIf s.flagZ d 2 s)

/-- $D0 `BNE d`: R224, R137. -/
def execBne (d : Int) (s : State) : Result := .next (branchIf (!s.flagZ) d 2 s)

/-- $30 `BMI d`: R225, R137. -/
def execBmi (d : Int) (s : State) : Result := .next (branchIf s.flagN d 2 s)

/-- $10 `BPL d`: R226, R137. -/
def execBpl (d : Int) (s : State) : Result := .next (branchIf (!s.flagN) d 2 s)

/-- $50 `BVC d`: R227, R137. -/
def execBvc (d : Int) (s : State) : Result := .next (branchIf (!s.flagV) d 2 s)

/-- $70 `BVS d`: R228, R137. -/
def execBvs (d : Int) (s : State) : Result := .next (branchIf s.flagV d 2 s)

/-- $80 `BRA d`: R229, R137. -/
def execBra (d : Int) (s : State) : Result := .next (branchIf true d 2 s)

/-- $4C `JMP a`: R230, R138. -/
def execJmpAbs (a : Word) (s : State) : Result := .next (charge 3 (setPc a s))

/-- $6C `JMP (a)`: R231, R141. -/
def execJmpInd (a : Word) (s : State) : Result := .next (charge 6 (jumpTo (targetInd a s)))

/-- $7C `JMP (a,X)`: R232, R145. -/
def execJmpIax (a : Word) (s : State) : Result := .next (charge 6 (jumpTo (targetIax a s)))

end Sys2Proof.Machine
end

