-- ==== Sys2Proof/Machine/LoadStore.lean ====
section
/-! DEFINITION. Load and store instructions (41_load_store.md R160 to R166).
The shared operations stand first, then one meaning for each row of the opcode table. -/

namespace Sys2Proof.Machine

/-- `A <- m; SetNZ(m)` (R160). -/
def loadA (r : Byte × State) : State := setNZ r.1 { r.2 with a := r.1 }

/-- `X <- m; SetNZ(m)` (R161). -/
def loadX (r : Byte × State) : State := setNZ r.1 { r.2 with x := r.1 }

/-- `Y <- m; SetNZ(m)` (R162). -/
def loadY (r : Byte × State) : State := setNZ r.1 { r.2 with y := r.1 }

/-- `MemWrite(ea, 1, A)` (R163). -/
def storeA (ea : Word × State) : State := writeAt ea.2.a ea

/-- `MemWrite(ea, 1, X)` (R164). -/
def storeX (ea : Word × State) : State := writeAt ea.2.x ea

/-- `MemWrite(ea, 1, Y)` (R165). -/
def storeY (ea : Word × State) : State := writeAt ea.2.y ea

/-- `MemWrite(ea, 1, 0)` (R166). -/
def storeZero (ea : Word × State) : State := writeAt 0 ea

/-- $A1 `LDA (z,X)`: R160, R142. -/
def execLdaIzx (z : Byte) (s : State) : Result := .next (charge 6 (loadA (readAt (eaIzx z s))))

/-- $A5 `LDA z`: R160, R134. -/
def execLdaZp (z : Byte) (s : State) : Result := .next (charge 3 (loadA (readAt (eaZp z s))))

/-- $A9 `LDA #v`: R160, R133. -/
def execLdaImm (v : Byte) (s : State) : Result := .next (charge 2 (loadA (v, s)))

/-- $AD `LDA a`: R160, R138. -/
def execLdaAbs (a : Word) (s : State) : Result := .next (charge 4 (loadA (readAt (eaAbs a s))))

/-- $B1 `LDA (z),Y`: R160, R143. -/
def execLdaIzy (z : Byte) (s : State) : Result := .next (chargeCross 5 (loadA (readAt (eaIzy z s))))

/-- $B2 `LDA (z)`: R160, R144. -/
def execLdaIzp (z : Byte) (s : State) : Result := .next (charge 5 (loadA (readAt (eaIzp z s))))

/-- $B5 `LDA z,X`: R160, R135. -/
def execLdaZpx (z : Byte) (s : State) : Result := .next (charge 4 (loadA (readAt (eaZpx z s))))

/-- $B9 `LDA a,Y`: R160, R140. -/
def execLdaAby (a : Word) (s : State) : Result := .next (chargeCross 4 (loadA (readAt (eaAby a s))))

/-- $BD `LDA a,X`: R160, R139. -/
def execLdaAbx (a : Word) (s : State) : Result := .next (chargeCross 4 (loadA (readAt (eaAbx a s))))

/-- $A2 `LDX #v`: R161, R133. -/
def execLdxImm (v : Byte) (s : State) : Result := .next (charge 2 (loadX (v, s)))

/-- $A6 `LDX z`: R161, R134. -/
def execLdxZp (z : Byte) (s : State) : Result := .next (charge 3 (loadX (readAt (eaZp z s))))

/-- $AE `LDX a`: R161, R138. -/
def execLdxAbs (a : Word) (s : State) : Result := .next (charge 4 (loadX (readAt (eaAbs a s))))

/-- $B6 `LDX z,Y`: R161, R136. -/
def execLdxZpy (z : Byte) (s : State) : Result := .next (charge 4 (loadX (readAt (eaZpy z s))))

/-- $BE `LDX a,Y`: R161, R140. -/
def execLdxAby (a : Word) (s : State) : Result := .next (chargeCross 4 (loadX (readAt (eaAby a s))))

/-- $A0 `LDY #v`: R162, R133. -/
def execLdyImm (v : Byte) (s : State) : Result := .next (charge 2 (loadY (v, s)))

/-- $A4 `LDY z`: R162, R134. -/
def execLdyZp (z : Byte) (s : State) : Result := .next (charge 3 (loadY (readAt (eaZp z s))))

/-- $AC `LDY a`: R162, R138. -/
def execLdyAbs (a : Word) (s : State) : Result := .next (charge 4 (loadY (readAt (eaAbs a s))))

/-- $B4 `LDY z,X`: R162, R135. -/
def execLdyZpx (z : Byte) (s : State) : Result := .next (charge 4 (loadY (readAt (eaZpx z s))))

/-- $BC `LDY a,X`: R162, R139. -/
def execLdyAbx (a : Word) (s : State) : Result := .next (chargeCross 4 (loadY (readAt (eaAbx a s))))

/-- $81 `STA (z,X)`: R163, R142. -/
def execStaIzx (z : Byte) (s : State) : Result := .next (charge 6 (storeA (eaIzx z s)))

/-- $85 `STA z`: R163, R134. -/
def execStaZp (z : Byte) (s : State) : Result := .next (charge 3 (storeA (eaZp z s)))

/-- $8D `STA a`: R163, R138. -/
def execStaAbs (a : Word) (s : State) : Result := .next (charge 4 (storeA (eaAbs a s)))

/-- $91 `STA (z),Y`: R163, R143. -/
def execStaIzy (z : Byte) (s : State) : Result := .next (charge 6 (storeA (eaIzy z s)))

/-- $92 `STA (z)`: R163, R144. -/
def execStaIzp (z : Byte) (s : State) : Result := .next (charge 5 (storeA (eaIzp z s)))

/-- $95 `STA z,X`: R163, R135. -/
def execStaZpx (z : Byte) (s : State) : Result := .next (charge 4 (storeA (eaZpx z s)))

/-- $99 `STA a,Y`: R163, R140. -/
def execStaAby (a : Word) (s : State) : Result := .next (charge 5 (storeA (eaAby a s)))

/-- $9D `STA a,X`: R163, R139. -/
def execStaAbx (a : Word) (s : State) : Result := .next (charge 5 (storeA (eaAbx a s)))

/-- $86 `STX z`: R164, R134. -/
def execStxZp (z : Byte) (s : State) : Result := .next (charge 3 (storeX (eaZp z s)))

/-- $8E `STX a`: R164, R138. -/
def execStxAbs (a : Word) (s : State) : Result := .next (charge 4 (storeX (eaAbs a s)))

/-- $96 `STX z,Y`: R164, R136. -/
def execStxZpy (z : Byte) (s : State) : Result := .next (charge 4 (storeX (eaZpy z s)))

/-- $84 `STY z`: R165, R134. -/
def execStyZp (z : Byte) (s : State) : Result := .next (charge 3 (storeY (eaZp z s)))

/-- $8C `STY a`: R165, R138. -/
def execStyAbs (a : Word) (s : State) : Result := .next (charge 4 (storeY (eaAbs a s)))

/-- $94 `STY z,X`: R165, R135. -/
def execStyZpx (z : Byte) (s : State) : Result := .next (charge 4 (storeY (eaZpx z s)))

/-- $64 `STZ z`: R166, R134. -/
def execStzZp (z : Byte) (s : State) : Result := .next (charge 3 (storeZero (eaZp z s)))

/-- $74 `STZ z,X`: R166, R135. -/
def execStzZpx (z : Byte) (s : State) : Result := .next (charge 4 (storeZero (eaZpx z s)))

/-- $9C `STZ a`: R166, R138. -/
def execStzAbs (a : Word) (s : State) : Result := .next (charge 4 (storeZero (eaAbs a s)))

/-- $9E `STZ a,X`: R166, R139. -/
def execStzAbx (a : Word) (s : State) : Result := .next (charge 5 (storeZero (eaAbx a s)))

end Sys2Proof.Machine
end

