-- ==== Sys2Proof/Machine/CompareLogic.lean ====
section
/-! DEFINITION. Compare, logic and bit-test instructions (43_compare_logic_bit.md R180 to R189).
The shared operations stand first, then one meaning for each row of the opcode table. -/

namespace Sys2Proof.Machine

/-- `Compare(A, m)` (R180). -/
def cmp (r : Byte × State) : State := compareByte r.2.a r.1 r.2

/-- `Compare(X, m)` (R181). -/
def cpx (r : Byte × State) : State := compareByte r.2.x r.1 r.2

/-- `Compare(Y, m)` (R182). -/
def cpy (r : Byte × State) : State := compareByte r.2.y r.1 r.2

/-- `A <- A & m; SetNZ(A)` (R184). -/
def andA (r : Byte × State) : State := loadA (r.2.a &&& r.1, r.2)

/-- `A <- A | m; SetNZ(A)` (R185). -/
def oraA (r : Byte × State) : State := loadA (r.2.a ||| r.1, r.2)

/-- `A <- A ^ m; SetNZ(A)` (R186). -/
def eorA (r : Byte × State) : State := loadA (r.2.a ^^^ r.1, r.2)

/-- BIT, memory forms: Z from `A & m`, N and V from bits 7 and 6 of the memory byte (R187). -/
def bitMem (r : Byte × State) : State :=
  { r.2 with flagZ := (r.2.a &&& r.1) == 0, flagN := r.1.getLsbD 7, flagV := r.1.getLsbD 6 }

/-- BIT, immediate form: Z and nothing else (R187). -/
def bitImm (r : Byte × State) : State := { r.2 with flagZ := (r.2.a &&& r.1) == 0 }

/-- $C1 `CMP (z,X)`: R180, R142. -/
def execCmpIzx (z : Byte) (s : State) : Result := .next (charge 6 (cmp (readAt (eaIzx z s))))

/-- $C5 `CMP z`: R180, R134. -/
def execCmpZp (z : Byte) (s : State) : Result := .next (charge 3 (cmp (readAt (eaZp z s))))

/-- $C9 `CMP #v`: R180, R133. -/
def execCmpImm (v : Byte) (s : State) : Result := .next (charge 2 (cmp (v, s)))

/-- $CD `CMP a`: R180, R138. -/
def execCmpAbs (a : Word) (s : State) : Result := .next (charge 4 (cmp (readAt (eaAbs a s))))

/-- $D1 `CMP (z),Y`: R180, R143. -/
def execCmpIzy (z : Byte) (s : State) : Result := .next (chargeCross 5 (cmp (readAt (eaIzy z s))))

/-- $D2 `CMP (z)`: R180, R144. -/
def execCmpIzp (z : Byte) (s : State) : Result := .next (charge 5 (cmp (readAt (eaIzp z s))))

/-- $D5 `CMP z,X`: R180, R135. -/
def execCmpZpx (z : Byte) (s : State) : Result := .next (charge 4 (cmp (readAt (eaZpx z s))))

/-- $D9 `CMP a,Y`: R180, R140. -/
def execCmpAby (a : Word) (s : State) : Result := .next (chargeCross 4 (cmp (readAt (eaAby a s))))

/-- $DD `CMP a,X`: R180, R139. -/
def execCmpAbx (a : Word) (s : State) : Result := .next (chargeCross 4 (cmp (readAt (eaAbx a s))))

/-- $E0 `CPX #v`: R181, R133. -/
def execCpxImm (v : Byte) (s : State) : Result := .next (charge 2 (cpx (v, s)))

/-- $E4 `CPX z`: R181, R134. -/
def execCpxZp (z : Byte) (s : State) : Result := .next (charge 3 (cpx (readAt (eaZp z s))))

/-- $EC `CPX a`: R181, R138. -/
def execCpxAbs (a : Word) (s : State) : Result := .next (charge 4 (cpx (readAt (eaAbs a s))))

/-- $C0 `CPY #v`: R182, R133. -/
def execCpyImm (v : Byte) (s : State) : Result := .next (charge 2 (cpy (v, s)))

/-- $C4 `CPY z`: R182, R134. -/
def execCpyZp (z : Byte) (s : State) : Result := .next (charge 3 (cpy (readAt (eaZp z s))))

/-- $CC `CPY a`: R182, R138. -/
def execCpyAbs (a : Word) (s : State) : Result := .next (charge 4 (cpy (readAt (eaAbs a s))))

/-- $21 `AND (z,X)`: R184, R142. -/
def execAndIzx (z : Byte) (s : State) : Result := .next (charge 6 (andA (readAt (eaIzx z s))))

/-- $25 `AND z`: R184, R134. -/
def execAndZp (z : Byte) (s : State) : Result := .next (charge 3 (andA (readAt (eaZp z s))))

/-- $29 `AND #v`: R184, R133. -/
def execAndImm (v : Byte) (s : State) : Result := .next (charge 2 (andA (v, s)))

/-- $2D `AND a`: R184, R138. -/
def execAndAbs (a : Word) (s : State) : Result := .next (charge 4 (andA (readAt (eaAbs a s))))

/-- $31 `AND (z),Y`: R184, R143. -/
def execAndIzy (z : Byte) (s : State) : Result := .next (chargeCross 5 (andA (readAt (eaIzy z s))))

/-- $32 `AND (z)`: R184, R144. -/
def execAndIzp (z : Byte) (s : State) : Result := .next (charge 5 (andA (readAt (eaIzp z s))))

/-- $35 `AND z,X`: R184, R135. -/
def execAndZpx (z : Byte) (s : State) : Result := .next (charge 4 (andA (readAt (eaZpx z s))))

/-- $39 `AND a,Y`: R184, R140. -/
def execAndAby (a : Word) (s : State) : Result := .next (chargeCross 4 (andA (readAt (eaAby a s))))

/-- $3D `AND a,X`: R184, R139. -/
def execAndAbx (a : Word) (s : State) : Result := .next (chargeCross 4 (andA (readAt (eaAbx a s))))

/-- $01 `ORA (z,X)`: R185, R142. -/
def execOraIzx (z : Byte) (s : State) : Result := .next (charge 6 (oraA (readAt (eaIzx z s))))

/-- $05 `ORA z`: R185, R134. -/
def execOraZp (z : Byte) (s : State) : Result := .next (charge 3 (oraA (readAt (eaZp z s))))

/-- $09 `ORA #v`: R185, R133. -/
def execOraImm (v : Byte) (s : State) : Result := .next (charge 2 (oraA (v, s)))

/-- $0D `ORA a`: R185, R138. -/
def execOraAbs (a : Word) (s : State) : Result := .next (charge 4 (oraA (readAt (eaAbs a s))))

/-- $11 `ORA (z),Y`: R185, R143. -/
def execOraIzy (z : Byte) (s : State) : Result := .next (chargeCross 5 (oraA (readAt (eaIzy z s))))

/-- $12 `ORA (z)`: R185, R144. -/
def execOraIzp (z : Byte) (s : State) : Result := .next (charge 5 (oraA (readAt (eaIzp z s))))

/-- $15 `ORA z,X`: R185, R135. -/
def execOraZpx (z : Byte) (s : State) : Result := .next (charge 4 (oraA (readAt (eaZpx z s))))

/-- $19 `ORA a,Y`: R185, R140. -/
def execOraAby (a : Word) (s : State) : Result := .next (chargeCross 4 (oraA (readAt (eaAby a s))))

/-- $1D `ORA a,X`: R185, R139. -/
def execOraAbx (a : Word) (s : State) : Result := .next (chargeCross 4 (oraA (readAt (eaAbx a s))))

/-- $41 `EOR (z,X)`: R186, R142. -/
def execEorIzx (z : Byte) (s : State) : Result := .next (charge 6 (eorA (readAt (eaIzx z s))))

/-- $45 `EOR z`: R186, R134. -/
def execEorZp (z : Byte) (s : State) : Result := .next (charge 3 (eorA (readAt (eaZp z s))))

/-- $49 `EOR #v`: R186, R133. -/
def execEorImm (v : Byte) (s : State) : Result := .next (charge 2 (eorA (v, s)))

/-- $4D `EOR a`: R186, R138. -/
def execEorAbs (a : Word) (s : State) : Result := .next (charge 4 (eorA (readAt (eaAbs a s))))

/-- $51 `EOR (z),Y`: R186, R143. -/
def execEorIzy (z : Byte) (s : State) : Result := .next (chargeCross 5 (eorA (readAt (eaIzy z s))))

/-- $52 `EOR (z)`: R186, R144. -/
def execEorIzp (z : Byte) (s : State) : Result := .next (charge 5 (eorA (readAt (eaIzp z s))))

/-- $55 `EOR z,X`: R186, R135. -/
def execEorZpx (z : Byte) (s : State) : Result := .next (charge 4 (eorA (readAt (eaZpx z s))))

/-- $59 `EOR a,Y`: R186, R140. -/
def execEorAby (a : Word) (s : State) : Result := .next (chargeCross 4 (eorA (readAt (eaAby a s))))

/-- $5D `EOR a,X`: R186, R139. -/
def execEorAbx (a : Word) (s : State) : Result := .next (chargeCross 4 (eorA (readAt (eaAbx a s))))

/-- $24 `BIT z`: R187, R134. -/
def execBitZp (z : Byte) (s : State) : Result := .next (charge 3 (bitMem (readAt (eaZp z s))))

/-- $2C `BIT a`: R187, R138. -/
def execBitAbs (a : Word) (s : State) : Result := .next (charge 4 (bitMem (readAt (eaAbs a s))))

/-- $34 `BIT z,X`: R187, R135. -/
def execBitZpx (z : Byte) (s : State) : Result := .next (charge 4 (bitMem (readAt (eaZpx z s))))

/-- $3C `BIT a,X`: R187, R139. -/
def execBitAbx (a : Word) (s : State) : Result :=
  .next (chargeCross 4 (bitMem (readAt (eaAbx a s))))

/-- $89 `BIT #v`: R187, R133. -/
def execBitImm (v : Byte) (s : State) : Result := .next (charge 2 (bitImm (v, s)))

/-- $04 `TSB z`: R188, R134. -/
def execTsbZp (z : Byte) (s : State) : Result := .next (charge 5 (modifyAt tsbByte (eaZp z s)))

/-- $0C `TSB a`: R188, R138. -/
def execTsbAbs (a : Word) (s : State) : Result := .next (charge 6 (modifyAt tsbByte (eaAbs a s)))

/-- $14 `TRB z`: R189, R134. -/
def execTrbZp (z : Byte) (s : State) : Result := .next (charge 5 (modifyAt trbByte (eaZp z s)))

/-- $1C `TRB a`: R189, R138. -/
def execTrbAbs (a : Word) (s : State) : Result := .next (charge 6 (modifyAt trbByte (eaAbs a s)))

end Sys2Proof.Machine
end

