-- ==== Sys2Proof/Machine/ShiftInc.lean ====
section
/-! DEFINITION. Shift, rotate, increment and decrement instructions (44_shift_rotate_incdec.md R200 to R210).
The shared operations stand first, then one meaning for each row of the opcode table. -/

namespace Sys2Proof.Machine

/-- `X <- v; SetNZ(v)`: INX, DEX (R206, R208). -/
def stepX (v : Byte) (s : State) : State := setNZ v { s with x := v }

/-- `Y <- v; SetNZ(v)`: INY, DEY (R207, R209). -/
def stepY (v : Byte) (s : State) : State := setNZ v { s with y := v }

/-- $06 `ASL z`: R200, R134. -/
def execAslZp (z : Byte) (s : State) : Result := .next (charge 5 (modifyAt aslByte (eaZp z s)))

/-- $0A `ASL A`: R200, R132. -/
def execAslAcc (s : State) : Result := .next (charge 2 (modifyA aslByte s))

/-- $0E `ASL a`: R200, R138. -/
def execAslAbs (a : Word) (s : State) : Result := .next (charge 6 (modifyAt aslByte (eaAbs a s)))

/-- $16 `ASL z,X`: R200, R135. -/
def execAslZpx (z : Byte) (s : State) : Result := .next (charge 6 (modifyAt aslByte (eaZpx z s)))

/-- $1E `ASL a,X`: R200, R139. -/
def execAslAbx (a : Word) (s : State) : Result :=
  .next (chargeCross 6 (modifyAt aslByte (eaAbx a s)))

/-- $46 `LSR z`: R201, R134. -/
def execLsrZp (z : Byte) (s : State) : Result := .next (charge 5 (modifyAt lsrByte (eaZp z s)))

/-- $4A `LSR A`: R201, R132. -/
def execLsrAcc (s : State) : Result := .next (charge 2 (modifyA lsrByte s))

/-- $4E `LSR a`: R201, R138. -/
def execLsrAbs (a : Word) (s : State) : Result := .next (charge 6 (modifyAt lsrByte (eaAbs a s)))

/-- $56 `LSR z,X`: R201, R135. -/
def execLsrZpx (z : Byte) (s : State) : Result := .next (charge 6 (modifyAt lsrByte (eaZpx z s)))

/-- $5E `LSR a,X`: R201, R139. -/
def execLsrAbx (a : Word) (s : State) : Result :=
  .next (chargeCross 6 (modifyAt lsrByte (eaAbx a s)))

/-- $26 `ROL z`: R202, R134. -/
def execRolZp (z : Byte) (s : State) : Result := .next (charge 5 (modifyAt rolByte (eaZp z s)))

/-- $2A `ROL A`: R202, R132. -/
def execRolAcc (s : State) : Result := .next (charge 2 (modifyA rolByte s))

/-- $2E `ROL a`: R202, R138. -/
def execRolAbs (a : Word) (s : State) : Result := .next (charge 6 (modifyAt rolByte (eaAbs a s)))

/-- $36 `ROL z,X`: R202, R135. -/
def execRolZpx (z : Byte) (s : State) : Result := .next (charge 6 (modifyAt rolByte (eaZpx z s)))

/-- $3E `ROL a,X`: R202, R139. -/
def execRolAbx (a : Word) (s : State) : Result :=
  .next (chargeCross 6 (modifyAt rolByte (eaAbx a s)))

/-- $66 `ROR z`: R203, R134. -/
def execRorZp (z : Byte) (s : State) : Result := .next (charge 5 (modifyAt rorByte (eaZp z s)))

/-- $6A `ROR A`: R203, R132. -/
def execRorAcc (s : State) : Result := .next (charge 2 (modifyA rorByte s))

/-- $6E `ROR a`: R203, R138. -/
def execRorAbs (a : Word) (s : State) : Result := .next (charge 6 (modifyAt rorByte (eaAbs a s)))

/-- $76 `ROR z,X`: R203, R135. -/
def execRorZpx (z : Byte) (s : State) : Result := .next (charge 6 (modifyAt rorByte (eaZpx z s)))

/-- $7E `ROR a,X`: R203, R139. -/
def execRorAbx (a : Word) (s : State) : Result :=
  .next (chargeCross 6 (modifyAt rorByte (eaAbx a s)))

/-- $1A `INC A`: R204, R132. -/
def execIncAcc (s : State) : Result := .next (charge 2 (modifyA incByte s))

/-- $E6 `INC z`: R204, R134. -/
def execIncZp (z : Byte) (s : State) : Result := .next (charge 5 (modifyAt incByte (eaZp z s)))

/-- $EE `INC a`: R204, R138. -/
def execIncAbs (a : Word) (s : State) : Result := .next (charge 6 (modifyAt incByte (eaAbs a s)))

/-- $F6 `INC z,X`: R204, R135. -/
def execIncZpx (z : Byte) (s : State) : Result := .next (charge 6 (modifyAt incByte (eaZpx z s)))

/-- $FE `INC a,X`: R204, R139. -/
def execIncAbx (a : Word) (s : State) : Result := .next (charge 7 (modifyAt incByte (eaAbx a s)))

/-- $3A `DEC A`: R205, R132. -/
def execDecAcc (s : State) : Result := .next (charge 2 (modifyA decByte s))

/-- $C6 `DEC z`: R205, R134. -/
def execDecZp (z : Byte) (s : State) : Result := .next (charge 5 (modifyAt decByte (eaZp z s)))

/-- $CE `DEC a`: R205, R138. -/
def execDecAbs (a : Word) (s : State) : Result := .next (charge 6 (modifyAt decByte (eaAbs a s)))

/-- $D6 `DEC z,X`: R205, R135. -/
def execDecZpx (z : Byte) (s : State) : Result := .next (charge 6 (modifyAt decByte (eaZpx z s)))

/-- $DE `DEC a,X`: R205, R139. -/
def execDecAbx (a : Word) (s : State) : Result := .next (charge 7 (modifyAt decByte (eaAbx a s)))

/-- $E8 `INX`: R206, R131. -/
def execInx (s : State) : Result := .next (charge 2 (stepX (s.x + 1) s))

/-- $C8 `INY`: R207, R131. -/
def execIny (s : State) : Result := .next (charge 2 (stepY (s.y + 1) s))

/-- $CA `DEX`: R208, R131. -/
def execDex (s : State) : Result := .next (charge 2 (stepX (s.x - 1) s))

/-- $88 `DEY`: R209, R131. -/
def execDey (s : State) : Result := .next (charge 2 (stepY (s.y - 1) s))

end Sys2Proof.Machine
end

