-- ==== Sys2Proof/Machine/Subroutine.lean ====
section
/-! DEFINITION. JSR, RTS, BRK, RTI (46_subroutine_brk_rti.md R240 to R244).
The shared operations stand first, then one meaning for each row of the opcode table. -/

namespace Sys2Proof.Machine

/-- JSR: push the address of the instruction's last byte, then jump (R240). -/
def jumpSubroutine (target : Word) (s : State) : State := setPc target (pushWord (s.pc - 1) s)

/-- RTS: pull the address and add one (R241). -/
def returnSubroutine (s : State) : State :=
  let t := pullWord s
  setPc (t.1 + 1) t.2

/-- BRK in debugger-break mode: halt before vectoring, PC at the reported address (R243, R411). -/
def debuggerBrk (s : State) : State :=
  let pc := s.pc - 1 + s.params.brkHaltPcOffset
  halt (.brk pc) (setPc pc (charge 0 s))

/-- BRK: the return address skips the signature byte (R242). -/
def softwareBrk (s : State) : State := charge 7 (enterInterrupt (s.pc + 1) true s.params.vecIrq s)

/-- $20 `JSR a`: R240, R138. -/
def execJsr (a : Word) (s : State) : Result := .next (charge 6 (jumpSubroutine a s))

/-- $60 `RTS`: R241, R131. -/
def execRts (s : State) : Result := .next (charge 6 (returnSubroutine s))

/-- $00 `BRK`: R242, R131. -/
def execBrk (s : State) : Result := .next (if s.brkHalt then debuggerBrk s else softwareBrk s)

/-- $40 `RTI`: R244, R131. -/
def execRti (s : State) : Result := .next (charge 6 (returnFromInterrupt s))

end Sys2Proof.Machine
end

