-- ==== Sys2Proof/Machine/TransferStackFlag.lean ====
section
/-! DEFINITION. Transfers, stack, flag instructions, NOP, the reserved NOPs and the unimplemented opcodes
(48_transfer_stack_flag_nop.md R260 to R292).
The shared operations stand first, then one meaning for each row of the opcode table. -/

namespace Sys2Proof.Machine

/-- An unimplemented opcode: PC back to the opcode, halt and report it; a byte taken out of
`UNIMPLEMENTED_OPCODES` is a one-byte, one-cycle NOP (R292, R413; log 9). -/
def unimplementedOpcode (opcode : Byte) (s : State) : State :=
  if s.params.unimplementedOpcodes.contains opcode then
    halt (.unimplementedOpcode opcode (s.pc - 1)) (setPc (s.pc - 1) (charge 0 s))
  else charge 1 s

/-- $AA `TAX`: R260, R131. -/
def execTax (s : State) : Result := .next (charge 2 (loadX (s.a, s)))

/-- $A8 `TAY`: R261, R131. -/
def execTay (s : State) : Result := .next (charge 2 (loadY (s.a, s)))

/-- $8A `TXA`: R262, R131. -/
def execTxa (s : State) : Result := .next (charge 2 (loadA (s.x, s)))

/-- $98 `TYA`: R263, R131. -/
def execTya (s : State) : Result := .next (charge 2 (loadA (s.y, s)))

/-- $BA `TSX`: R264, R131. -/
def execTsx (s : State) : Result := .next (charge 2 (loadX (s.sp, s)))

/-- $9A `TXS`: R265, R131. -/
def execTxs (s : State) : Result := .next (charge 2 { s with sp := s.x })

/-- $48 `PHA`: R266, R131. -/
def execPha (s : State) : Result := .next (charge 3 (push s.a s))

/-- $68 `PLA`: R267, R131. -/
def execPla (s : State) : Result := .next (charge 4 (loadA (pull s)))

/-- $DA `PHX`: R268, R131. -/
def execPhx (s : State) : Result := .next (charge 3 (push s.x s))

/-- $FA `PLX`: R269, R131. -/
def execPlx (s : State) : Result := .next (charge 4 (loadX (pull s)))

/-- $5A `PHY`: R270, R131. -/
def execPhy (s : State) : Result := .next (charge 3 (push s.y s))

/-- $7A `PLY`: R271, R131. -/
def execPly (s : State) : Result := .next (charge 4 (loadY (pull s)))

/-- $08 `PHP`: R272, R131. -/
def execPhp (s : State) : Result := .next (charge 3 (push (pack true s) s))

/-- $28 `PLP`: R273, R131. -/
def execPlp (s : State) : Result := .next (charge 4 (unpack (pull s).1 (pull s).2))

/-- $18 `CLC`: R274, R131. -/
def execClc (s : State) : Result := .next (charge 2 { s with flagC := false })

/-- $38 `SEC`: R275, R131. -/
def execSec (s : State) : Result := .next (charge 2 { s with flagC := true })

/-- $58 `CLI`: R276, R131. -/
def execCli (s : State) : Result := .next (charge 2 { s with flagI := false })

/-- $78 `SEI`: R277, R131. -/
def execSei (s : State) : Result := .next (charge 2 { s with flagI := true })

/-- $D8 `CLD`: R278, R131. -/
def execCld (s : State) : Result := .next (charge 2 { s with flagD := false })

/-- $F8 `SED`: R279, R131. -/
def execSed (s : State) : Result := .next (charge 2 { s with flagD := true })

/-- $B8 `CLV`: R280, R131. -/
def execClv (s : State) : Result := .next (charge 2 { s with flagV := false })

/-- $02 `NOP #v`: R287, R133. -/
def execNop02 (_v : Byte) (s : State) : Result := .next (charge 2 s)

/-- $22 `NOP #v`: R287, R133. -/
def execNop22 (_v : Byte) (s : State) : Result := .next (charge 2 s)

/-- $42 `NOP #v`: R287, R133. -/
def execNop42 (_v : Byte) (s : State) : Result := .next (charge 2 s)

/-- $44 `NOP z`: R288, R134. -/
def execNop44 (_z : Byte) (s : State) : Result := .next (charge 3 s)

/-- $54 `NOP z,X`: R289, R135. -/
def execNop54 (_z : Byte) (s : State) : Result := .next (charge 4 s)

/-- $5C `NOP a`: R291, R138. -/
def execNop5C (_a : Word) (s : State) : Result := .next (charge 8 s)

/-- $62 `NOP #v`: R287, R133. -/
def execNop62 (_v : Byte) (s : State) : Result := .next (charge 2 s)

/-- $82 `NOP #v`: R287, R133. -/
def execNop82 (_v : Byte) (s : State) : Result := .next (charge 2 s)

/-- $C2 `NOP #v`: R287, R133. -/
def execNopC2 (_v : Byte) (s : State) : Result := .next (charge 2 s)

/-- $D4 `NOP z,X`: R289, R135. -/
def execNopD4 (_z : Byte) (s : State) : Result := .next (charge 4 s)

/-- $DC `NOP a`: R290, R138. -/
def execNopDC (_a : Word) (s : State) : Result := .next (charge 4 s)

/-- $E2 `NOP #v`: R287, R133. -/
def execNopE2 (_v : Byte) (s : State) : Result := .next (charge 2 s)

/-- $F4 `NOP z,X`: R289, R135. -/
def execNopF4 (_z : Byte) (s : State) : Result := .next (charge 4 s)

/-- $FC `NOP a`: R290, R138. -/
def execNopFC (_a : Word) (s : State) : Result := .next (charge 4 s)

/-- $03 `NOP`: R286, R131. -/
def execNop03 (s : State) : Result := .next (charge 1 s)

/-- $0B `NOP`: R286, R131. -/
def execNop0B (s : State) : Result := .next (charge 1 s)

/-- $13 `NOP`: R286, R131. -/
def execNop13 (s : State) : Result := .next (charge 1 s)

/-- $1B `NOP`: R286, R131. -/
def execNop1B (s : State) : Result := .next (charge 1 s)

/-- $23 `NOP`: R286, R131. -/
def execNop23 (s : State) : Result := .next (charge 1 s)

/-- $2B `NOP`: R286, R131. -/
def execNop2B (s : State) : Result := .next (charge 1 s)

/-- $33 `NOP`: R286, R131. -/
def execNop33 (s : State) : Result := .next (charge 1 s)

/-- $3B `NOP`: R286, R131. -/
def execNop3B (s : State) : Result := .next (charge 1 s)

/-- $43 `NOP`: R286, R131. -/
def execNop43 (s : State) : Result := .next (charge 1 s)

/-- $4B `NOP`: R286, R131. -/
def execNop4B (s : State) : Result := .next (charge 1 s)

/-- $53 `NOP`: R286, R131. -/
def execNop53 (s : State) : Result := .next (charge 1 s)

/-- $5B `NOP`: R286, R131. -/
def execNop5B (s : State) : Result := .next (charge 1 s)

/-- $63 `NOP`: R286, R131. -/
def execNop63 (s : State) : Result := .next (charge 1 s)

/-- $6B `NOP`: R286, R131. -/
def execNop6B (s : State) : Result := .next (charge 1 s)

/-- $73 `NOP`: R286, R131. -/
def execNop73 (s : State) : Result := .next (charge 1 s)

/-- $7B `NOP`: R286, R131. -/
def execNop7B (s : State) : Result := .next (charge 1 s)

/-- $83 `NOP`: R286, R131. -/
def execNop83 (s : State) : Result := .next (charge 1 s)

/-- $8B `NOP`: R286, R131. -/
def execNop8B (s : State) : Result := .next (charge 1 s)

/-- $93 `NOP`: R286, R131. -/
def execNop93 (s : State) : Result := .next (charge 1 s)

/-- $9B `NOP`: R286, R131. -/
def execNop9B (s : State) : Result := .next (charge 1 s)

/-- $A3 `NOP`: R286, R131. -/
def execNopA3 (s : State) : Result := .next (charge 1 s)

/-- $AB `NOP`: R286, R131. -/
def execNopAB (s : State) : Result := .next (charge 1 s)

/-- $B3 `NOP`: R286, R131. -/
def execNopB3 (s : State) : Result := .next (charge 1 s)

/-- $BB `NOP`: R286, R131. -/
def execNopBB (s : State) : Result := .next (charge 1 s)

/-- $C3 `NOP`: R286, R131. -/
def execNopC3 (s : State) : Result := .next (charge 1 s)

/-- $D3 `NOP`: R286, R131. -/
def execNopD3 (s : State) : Result := .next (charge 1 s)

/-- $E3 `NOP`: R286, R131. -/
def execNopE3 (s : State) : Result := .next (charge 1 s)

/-- $EA `NOP`: R281, R131. -/
def execNop (s : State) : Result := .next (charge 2 s)

/-- $EB `NOP`: R286, R131. -/
def execNopEB (s : State) : Result := .next (charge 1 s)

/-- $F3 `NOP`: R286, R131. -/
def execNopF3 (s : State) : Result := .next (charge 1 s)

/-- $FB `NOP`: R286, R131. -/
def execNopFB (s : State) : Result := .next (charge 1 s)

/-- $CB `UNIMPLEMENTED`: R292, R131. -/
def execUnimplementedCB (s : State) : Result := .next (unimplementedOpcode 0xCB s)

/-- $DB `UNIMPLEMENTED`: R292, R131. -/
def execUnimplementedDB (s : State) : Result := .next (unimplementedOpcode 0xDB s)

end Sys2Proof.Machine
end

