-- ==== Sys2Proof/Machine/Dispatch.lean ====
section
/-! DEFINITION. The dispatch through the 256-entry table (60_exceptions.md R402): one arm a constructor. -/

namespace Sys2Proof.Machine

def exec (i : Instr) (s : State) : Host.Outcome State Fault Refusal :=
  match i with
  | .ldaIzx z => Sys2Proof.Machine.execLdaIzx z s
  | .ldaZp z => Sys2Proof.Machine.execLdaZp z s
  | .ldaImm v => Sys2Proof.Machine.execLdaImm v s
  | .ldaAbs a => Sys2Proof.Machine.execLdaAbs a s
  | .ldaIzy z => Sys2Proof.Machine.execLdaIzy z s
  | .ldaIzp z => Sys2Proof.Machine.execLdaIzp z s
  | .ldaZpx z => Sys2Proof.Machine.execLdaZpx z s
  | .ldaAby a => Sys2Proof.Machine.execLdaAby a s
  | .ldaAbx a => Sys2Proof.Machine.execLdaAbx a s
  | .ldxImm v => Sys2Proof.Machine.execLdxImm v s
  | .ldxZp z => Sys2Proof.Machine.execLdxZp z s
  | .ldxAbs a => Sys2Proof.Machine.execLdxAbs a s
  | .ldxZpy z => Sys2Proof.Machine.execLdxZpy z s
  | .ldxAby a => Sys2Proof.Machine.execLdxAby a s
  | .ldyImm v => Sys2Proof.Machine.execLdyImm v s
  | .ldyZp z => Sys2Proof.Machine.execLdyZp z s
  | .ldyAbs a => Sys2Proof.Machine.execLdyAbs a s
  | .ldyZpx z => Sys2Proof.Machine.execLdyZpx z s
  | .ldyAbx a => Sys2Proof.Machine.execLdyAbx a s
  | .staIzx z => Sys2Proof.Machine.execStaIzx z s
  | .staZp z => Sys2Proof.Machine.execStaZp z s
  | .staAbs a => Sys2Proof.Machine.execStaAbs a s
  | .staIzy z => Sys2Proof.Machine.execStaIzy z s
  | .staIzp z => Sys2Proof.Machine.execStaIzp z s
  | .staZpx z => Sys2Proof.Machine.execStaZpx z s
  | .staAby a => Sys2Proof.Machine.execStaAby a s
  | .staAbx a => Sys2Proof.Machine.execStaAbx a s
  | .stxZp z => Sys2Proof.Machine.execStxZp z s
  | .stxAbs a => Sys2Proof.Machine.execStxAbs a s
  | .stxZpy z => Sys2Proof.Machine.execStxZpy z s
  | .styZp z => Sys2Proof.Machine.execStyZp z s
  | .styAbs a => Sys2Proof.Machine.execStyAbs a s
  | .styZpx z => Sys2Proof.Machine.execStyZpx z s
  | .stzZp z => Sys2Proof.Machine.execStzZp z s
  | .stzZpx z => Sys2Proof.Machine.execStzZpx z s
  | .stzAbs a => Sys2Proof.Machine.execStzAbs a s
  | .stzAbx a => Sys2Proof.Machine.execStzAbx a s
  | .adcIzx z => Sys2Proof.Machine.execAdcIzx z s
  | .adcZp z => Sys2Proof.Machine.execAdcZp z s
  | .adcImm v => Sys2Proof.Machine.execAdcImm v s
  | .adcAbs a => Sys2Proof.Machine.execAdcAbs a s
  | .adcIzy z => Sys2Proof.Machine.execAdcIzy z s
  | .adcIzp z => Sys2Proof.Machine.execAdcIzp z s
  | .adcZpx z => Sys2Proof.Machine.execAdcZpx z s
  | .adcAby a => Sys2Proof.Machine.execAdcAby a s
  | .adcAbx a => Sys2Proof.Machine.execAdcAbx a s
  | .sbcIzx z => Sys2Proof.Machine.execSbcIzx z s
  | .sbcZp z => Sys2Proof.Machine.execSbcZp z s
  | .sbcImm v => Sys2Proof.Machine.execSbcImm v s
  | .sbcAbs a => Sys2Proof.Machine.execSbcAbs a s
  | .sbcIzy z => Sys2Proof.Machine.execSbcIzy z s
  | .sbcIzp z => Sys2Proof.Machine.execSbcIzp z s
  | .sbcZpx z => Sys2Proof.Machine.execSbcZpx z s
  | .sbcAby a => Sys2Proof.Machine.execSbcAby a s
  | .sbcAbx a => Sys2Proof.Machine.execSbcAbx a s
  | .cmpIzx z => Sys2Proof.Machine.execCmpIzx z s
  | .cmpZp z => Sys2Proof.Machine.execCmpZp z s
  | .cmpImm v => Sys2Proof.Machine.execCmpImm v s
  | .cmpAbs a => Sys2Proof.Machine.execCmpAbs a s
  | .cmpIzy z => Sys2Proof.Machine.execCmpIzy z s
  | .cmpIzp z => Sys2Proof.Machine.execCmpIzp z s
  | .cmpZpx z => Sys2Proof.Machine.execCmpZpx z s
  | .cmpAby a => Sys2Proof.Machine.execCmpAby a s
  | .cmpAbx a => Sys2Proof.Machine.execCmpAbx a s
  | .cpxImm v => Sys2Proof.Machine.execCpxImm v s
  | .cpxZp z => Sys2Proof.Machine.execCpxZp z s
  | .cpxAbs a => Sys2Proof.Machine.execCpxAbs a s
  | .cpyImm v => Sys2Proof.Machine.execCpyImm v s
  | .cpyZp z => Sys2Proof.Machine.execCpyZp z s
  | .cpyAbs a => Sys2Proof.Machine.execCpyAbs a s
  | .andIzx z => Sys2Proof.Machine.execAndIzx z s
  | .andZp z => Sys2Proof.Machine.execAndZp z s
  | .andImm v => Sys2Proof.Machine.execAndImm v s
  | .andAbs a => Sys2Proof.Machine.execAndAbs a s
  | .andIzy z => Sys2Proof.Machine.execAndIzy z s
  | .andIzp z => Sys2Proof.Machine.execAndIzp z s
  | .andZpx z => Sys2Proof.Machine.execAndZpx z s
  | .andAby a => Sys2Proof.Machine.execAndAby a s
  | .andAbx a => Sys2Proof.Machine.execAndAbx a s
  | .oraIzx z => Sys2Proof.Machine.execOraIzx z s
  | .oraZp z => Sys2Proof.Machine.execOraZp z s
  | .oraImm v => Sys2Proof.Machine.execOraImm v s
  | .oraAbs a => Sys2Proof.Machine.execOraAbs a s
  | .oraIzy z => Sys2Proof.Machine.execOraIzy z s
  | .oraIzp z => Sys2Proof.Machine.execOraIzp z s
  | .oraZpx z => Sys2Proof.Machine.execOraZpx z s
  | .oraAby a => Sys2Proof.Machine.execOraAby a s
  | .oraAbx a => Sys2Proof.Machine.execOraAbx a s
  | .eorIzx z => Sys2Proof.Machine.execEorIzx z s
  | .eorZp z => Sys2Proof.Machine.execEorZp z s
  | .eorImm v => Sys2Proof.Machine.execEorImm v s
  | .eorAbs a => Sys2Proof.Machine.execEorAbs a s
  | .eorIzy z => Sys2Proof.Machine.execEorIzy z s
  | .eorIzp z => Sys2Proof.Machine.execEorIzp z s
  | .eorZpx z => Sys2Proof.Machine.execEorZpx z s
  | .eorAby a => Sys2Proof.Machine.execEorAby a s
  | .eorAbx a => Sys2Proof.Machine.execEorAbx a s
  | .bitZp z => Sys2Proof.Machine.execBitZp z s
  | .bitAbs a => Sys2Proof.Machine.execBitAbs a s
  | .bitZpx z => Sys2Proof.Machine.execBitZpx z s
  | .bitAbx a => Sys2Proof.Machine.execBitAbx a s
  | .bitImm v => Sys2Proof.Machine.execBitImm v s
  | .tsbZp z => Sys2Proof.Machine.execTsbZp z s
  | .tsbAbs a => Sys2Proof.Machine.execTsbAbs a s
  | .trbZp z => Sys2Proof.Machine.execTrbZp z s
  | .trbAbs a => Sys2Proof.Machine.execTrbAbs a s
  | .aslZp z => Sys2Proof.Machine.execAslZp z s
  | .aslAcc => Sys2Proof.Machine.execAslAcc s
  | .aslAbs a => Sys2Proof.Machine.execAslAbs a s
  | .aslZpx z => Sys2Proof.Machine.execAslZpx z s
  | .aslAbx a => Sys2Proof.Machine.execAslAbx a s
  | .lsrZp z => Sys2Proof.Machine.execLsrZp z s
  | .lsrAcc => Sys2Proof.Machine.execLsrAcc s
  | .lsrAbs a => Sys2Proof.Machine.execLsrAbs a s
  | .lsrZpx z => Sys2Proof.Machine.execLsrZpx z s
  | .lsrAbx a => Sys2Proof.Machine.execLsrAbx a s
  | .rolZp z => Sys2Proof.Machine.execRolZp z s
  | .rolAcc => Sys2Proof.Machine.execRolAcc s
  | .rolAbs a => Sys2Proof.Machine.execRolAbs a s
  | .rolZpx z => Sys2Proof.Machine.execRolZpx z s
  | .rolAbx a => Sys2Proof.Machine.execRolAbx a s
  | .rorZp z => Sys2Proof.Machine.execRorZp z s
  | .rorAcc => Sys2Proof.Machine.execRorAcc s
  | .rorAbs a => Sys2Proof.Machine.execRorAbs a s
  | .rorZpx z => Sys2Proof.Machine.execRorZpx z s
  | .rorAbx a => Sys2Proof.Machine.execRorAbx a s
  | .incAcc => Sys2Proof.Machine.execIncAcc s
  | .incZp z => Sys2Proof.Machine.execIncZp z s
  | .incAbs a => Sys2Proof.Machine.execIncAbs a s
  | .incZpx z => Sys2Proof.Machine.execIncZpx z s
  | .incAbx a => Sys2Proof.Machine.execIncAbx a s
  | .decAcc => Sys2Proof.Machine.execDecAcc s
  | .decZp z => Sys2Proof.Machine.execDecZp z s
  | .decAbs a => Sys2Proof.Machine.execDecAbs a s
  | .decZpx z => Sys2Proof.Machine.execDecZpx z s
  | .decAbx a => Sys2Proof.Machine.execDecAbx a s
  | .inx => Sys2Proof.Machine.execInx s
  | .iny => Sys2Proof.Machine.execIny s
  | .dex => Sys2Proof.Machine.execDex s
  | .dey => Sys2Proof.Machine.execDey s
  | .bcc d => Sys2Proof.Machine.execBcc d s
  | .bcs d => Sys2Proof.Machine.execBcs d s
  | .beq d => Sys2Proof.Machine.execBeq d s
  | .bne d => Sys2Proof.Machine.execBne d s
  | .bmi d => Sys2Proof.Machine.execBmi d s
  | .bpl d => Sys2Proof.Machine.execBpl d s
  | .bvc d => Sys2Proof.Machine.execBvc d s
  | .bvs d => Sys2Proof.Machine.execBvs d s
  | .bra d => Sys2Proof.Machine.execBra d s
  | .jmpAbs a => Sys2Proof.Machine.execJmpAbs a s
  | .jmpInd a => Sys2Proof.Machine.execJmpInd a s
  | .jmpIax a => Sys2Proof.Machine.execJmpIax a s
  | .jsr a => Sys2Proof.Machine.execJsr a s
  | .rts => Sys2Proof.Machine.execRts s
  | .brk => Sys2Proof.Machine.execBrk s
  | .rti => Sys2Proof.Machine.execRti s
  | .rmb0 z => Sys2Proof.Machine.execRmb0 z s
  | .rmb1 z => Sys2Proof.Machine.execRmb1 z s
  | .rmb2 z => Sys2Proof.Machine.execRmb2 z s
  | .rmb3 z => Sys2Proof.Machine.execRmb3 z s
  | .rmb4 z => Sys2Proof.Machine.execRmb4 z s
  | .rmb5 z => Sys2Proof.Machine.execRmb5 z s
  | .rmb6 z => Sys2Proof.Machine.execRmb6 z s
  | .rmb7 z => Sys2Proof.Machine.execRmb7 z s
  | .smb0 z => Sys2Proof.Machine.execSmb0 z s
  | .smb1 z => Sys2Proof.Machine.execSmb1 z s
  | .smb2 z => Sys2Proof.Machine.execSmb2 z s
  | .smb3 z => Sys2Proof.Machine.execSmb3 z s
  | .smb4 z => Sys2Proof.Machine.execSmb4 z s
  | .smb5 z => Sys2Proof.Machine.execSmb5 z s
  | .smb6 z => Sys2Proof.Machine.execSmb6 z s
  | .smb7 z => Sys2Proof.Machine.execSmb7 z s
  | .bbr0 z d => Sys2Proof.Machine.execBbr0 z d s
  | .bbr1 z d => Sys2Proof.Machine.execBbr1 z d s
  | .bbr2 z d => Sys2Proof.Machine.execBbr2 z d s
  | .bbr3 z d => Sys2Proof.Machine.execBbr3 z d s
  | .bbr4 z d => Sys2Proof.Machine.execBbr4 z d s
  | .bbr5 z d => Sys2Proof.Machine.execBbr5 z d s
  | .bbr6 z d => Sys2Proof.Machine.execBbr6 z d s
  | .bbr7 z d => Sys2Proof.Machine.execBbr7 z d s
  | .bbs0 z d => Sys2Proof.Machine.execBbs0 z d s
  | .bbs1 z d => Sys2Proof.Machine.execBbs1 z d s
  | .bbs2 z d => Sys2Proof.Machine.execBbs2 z d s
  | .bbs3 z d => Sys2Proof.Machine.execBbs3 z d s
  | .bbs4 z d => Sys2Proof.Machine.execBbs4 z d s
  | .bbs5 z d => Sys2Proof.Machine.execBbs5 z d s
  | .bbs6 z d => Sys2Proof.Machine.execBbs6 z d s
  | .bbs7 z d => Sys2Proof.Machine.execBbs7 z d s
  | .tax => Sys2Proof.Machine.execTax s
  | .tay => Sys2Proof.Machine.execTay s
  | .txa => Sys2Proof.Machine.execTxa s
  | .tya => Sys2Proof.Machine.execTya s
  | .tsx => Sys2Proof.Machine.execTsx s
  | .txs => Sys2Proof.Machine.execTxs s
  | .pha => Sys2Proof.Machine.execPha s
  | .pla => Sys2Proof.Machine.execPla s
  | .phx => Sys2Proof.Machine.execPhx s
  | .plx => Sys2Proof.Machine.execPlx s
  | .phy => Sys2Proof.Machine.execPhy s
  | .ply => Sys2Proof.Machine.execPly s
  | .php => Sys2Proof.Machine.execPhp s
  | .plp => Sys2Proof.Machine.execPlp s
  | .clc => Sys2Proof.Machine.execClc s
  | .sec => Sys2Proof.Machine.execSec s
  | .cli => Sys2Proof.Machine.execCli s
  | .sei => Sys2Proof.Machine.execSei s
  | .cld => Sys2Proof.Machine.execCld s
  | .sed => Sys2Proof.Machine.execSed s
  | .clv => Sys2Proof.Machine.execClv s
  | .nop02 v => Sys2Proof.Machine.execNop02 v s
  | .nop22 v => Sys2Proof.Machine.execNop22 v s
  | .nop42 v => Sys2Proof.Machine.execNop42 v s
  | .nop44 z => Sys2Proof.Machine.execNop44 z s
  | .nop54 z => Sys2Proof.Machine.execNop54 z s
  | .nop5C a => Sys2Proof.Machine.execNop5C a s
  | .nop62 v => Sys2Proof.Machine.execNop62 v s
  | .nop82 v => Sys2Proof.Machine.execNop82 v s
  | .nopC2 v => Sys2Proof.Machine.execNopC2 v s
  | .nopD4 z => Sys2Proof.Machine.execNopD4 z s
  | .nopDC a => Sys2Proof.Machine.execNopDC a s
  | .nopE2 v => Sys2Proof.Machine.execNopE2 v s
  | .nopF4 z => Sys2Proof.Machine.execNopF4 z s
  | .nopFC a => Sys2Proof.Machine.execNopFC a s
  | .nop03 => Sys2Proof.Machine.execNop03 s
  | .nop0B => Sys2Proof.Machine.execNop0B s
  | .nop13 => Sys2Proof.Machine.execNop13 s
  | .nop1B => Sys2Proof.Machine.execNop1B s
  | .nop23 => Sys2Proof.Machine.execNop23 s
  | .nop2B => Sys2Proof.Machine.execNop2B s
  | .nop33 => Sys2Proof.Machine.execNop33 s
  | .nop3B => Sys2Proof.Machine.execNop3B s
  | .nop43 => Sys2Proof.Machine.execNop43 s
  | .nop4B => Sys2Proof.Machine.execNop4B s
  | .nop53 => Sys2Proof.Machine.execNop53 s
  | .nop5B => Sys2Proof.Machine.execNop5B s
  | .nop63 => Sys2Proof.Machine.execNop63 s
  | .nop6B => Sys2Proof.Machine.execNop6B s
  | .nop73 => Sys2Proof.Machine.execNop73 s
  | .nop7B => Sys2Proof.Machine.execNop7B s
  | .nop83 => Sys2Proof.Machine.execNop83 s
  | .nop8B => Sys2Proof.Machine.execNop8B s
  | .nop93 => Sys2Proof.Machine.execNop93 s
  | .nop9B => Sys2Proof.Machine.execNop9B s
  | .nopA3 => Sys2Proof.Machine.execNopA3 s
  | .nopAB => Sys2Proof.Machine.execNopAB s
  | .nopB3 => Sys2Proof.Machine.execNopB3 s
  | .nopBB => Sys2Proof.Machine.execNopBB s
  | .nopC3 => Sys2Proof.Machine.execNopC3 s
  | .nopD3 => Sys2Proof.Machine.execNopD3 s
  | .nopE3 => Sys2Proof.Machine.execNopE3 s
  | .nop => Sys2Proof.Machine.execNop s
  | .nopEB => Sys2Proof.Machine.execNopEB s
  | .nopF3 => Sys2Proof.Machine.execNopF3 s
  | .nopFB => Sys2Proof.Machine.execNopFB s
  | .unimplementedCB => Sys2Proof.Machine.execUnimplementedCB s
  | .unimplementedDB => Sys2Proof.Machine.execUnimplementedDB s

end Sys2Proof.Machine
end

