-- ==== Sys2Proof/Machine/HostMoves.lean ====
section
/-! DEFINITION. What the host does between steps (20_memory.md R80, R81; 60_exceptions.md R411, R430 to
R434, R436). -/

namespace Sys2Proof.Machine

/-- The store cell that `load` names for an address: without a bank RAM or ROM by the address, with one
the language-card store, if the address lies in it (R80). -/
def loadCell (bank : Option Store) (a : Word) : Option (Store × Nat) :=
  let n := a.toNat
  match bank with
  | none =>
    if n ≤ 0xBFFF then some (.ram, n) else if 0xC100 ≤ n then some (.rom, n) else none
  | some .ram => if n ≤ 0xBFFF then some (.ram, n) else none
  | some .rom => if 0xC100 ≤ n then some (.rom, n) else none
  | some .lc1 => if 0xD000 ≤ n ∧ n ≤ 0xDFFF then some (.lc1, n - 0xD000) else none
  | some .lc2 => if 0xD000 ≤ n ∧ n ≤ 0xDFFF then some (.lc2, n - 0xD000) else none
  | some .lch => if 0xE000 ≤ n then some (.lch, n - 0xE000) else none

/-- `load`: the bytes go into the named store whatever `lcWriteRam` says; no switch and no handler acts
(R80). A byte whose address names no store is dropped (log 19). -/
def loadBytes (bank : Option Store) (a : Word) : List Byte → Bus → Bus
  | [], b => b
  | v :: data, b =>
    loadBytes bank (a + 1) data
      (match loadCell bank a with
        | some (st, i) => b.poke st i v
        | none => b)

/-- The sixteen entries of the language card cannot be registered (R73). -/
def Bus.isCardEntry (b : Bus) (entry : Byte) : Bool := b.isSwitch (0xC000 + entry.setWidth 16)

/-- Add an element to a list that holds no element twice. -/
def addOnce {α : Type} [DecidableEq α] (x : α) (l : List α) : List α :=
  if x ∈ l then l else l ++ [x]

/-- Take an element out of a list. -/
def takeOut {α : Type} [DecidableEq α] (x : α) (l : List α) : List α := l.filter (· ≠ x)

/-- Write an 8-bit register (R433). -/
def writeReg8 (r : Reg8) (v : Byte) (s : State) : State :=
  match r with
  | .a => { s with a := v }
  | .x => { s with x := v }
  | .y => { s with y := v }
  | .sp => { s with sp := v }

/-- Read an 8-bit register (R433). -/
def readReg8 (r : Reg8) (s : State) : Byte :=
  match r with
  | .a => s.a
  | .x => s.x
  | .y => s.y
  | .sp => s.sp

/-- Write a flag (R433). -/
def writeFlag (f : Flag) (v : Bool) (s : State) : State :=
  match f with
  | .n => { s with flagN := v }
  | .v => { s with flagV := v }
  | .d => { s with flagD := v }
  | .i => { s with flagI := v }
  | .z => { s with flagZ := v }
  | .c => { s with flagC := v }
  | .b => { s with flagB := v }

/-- Read a flag (R433). -/
def readFlag (f : Flag) (s : State) : Bool :=
  match f with
  | .n => s.flagN
  | .v => s.flagV
  | .d => s.flagD
  | .i => s.flagI
  | .z => s.flagZ
  | .c => s.flagC
  | .b => s.flagB

/-- One host command. DESIGN CHOICE (log 27), where R436 does not say when two entries of the breakpoint set
are the same: they are if kind, address and the optional `endAddress` are, so that an entry without
`endAddress` and one with `endAddress` = `address` are two, and each is removed only by its own description.
`run` and `step` act on a Stopped core, `pause` on a Running one (R430, R431, R434; `step` on a Running core:
log 12); `reset` is a request on a Running core and performed at once on a Stopped one (R432). -/
def hostMove (c : HostCommand) (s : State) : State :=
  match c with
  | .run =>
    match s.run with
    | .stopped => { s with run := .running, firstBoundary := true }
    | .running => s
  | .pause =>
    match s.run with
    | .stopped => s
    | .running => { s with pauseRequest := true }
  | .reset =>
    match s.run with
    | .stopped => resetSequence s
    | .running => { s with resetRequest := true }
  | .step =>
    match s.run with
    | .stopped => { s with run := .running, firstBoundary := true, singleStep := true }
    | .running => s
  | .load bank a data => { s with bus := loadBytes bank a data s.bus }
  | .writeReg r v => writeReg8 r v s
  | .writePc v => setPc v s
  | .writeFlag f v => writeFlag f v s
  | .registerRead e =>
    if s.bus.isCardEntry e then s
    else { s with bus := { s.bus with readHandlers := addOnce e s.bus.readHandlers } }
  | .removeRead e => { s with bus := { s.bus with readHandlers := takeOut e s.bus.readHandlers } }
  | .registerWrite e =>
    if s.bus.isCardEntry e then s
    else { s with bus := { s.bus with writeHandlers := addOnce e s.bus.writeHandlers } }
  | .removeWrite e => { s with bus := { s.bus with writeHandlers := takeOut e s.bus.writeHandlers } }
  | .addBreakpoint b => { s with breakpoints := addOnce b s.breakpoints }
  | .removeBreakpoint b => { s with breakpoints := takeOut b s.breakpoints }
  | .clearBreakpoints => { s with breakpoints := [] }
  | .setBrkHalt v => { s with brkHalt := v }

/-- The host's moves before a boundary, in order. -/
def hostMoves (cs : List HostCommand) (s : State) : State :=
  match cs with
  | [] => s
  | c :: cs => hostMoves cs (hostMove c s)

end Sys2Proof.Machine
end

