-- ==== Sys2Proof/Machine/Boundary.lean ====
section
/-! DEFINITION. The instruction boundary and the four kinds of step (60_exceptions.md R400 to R404, R410,
R421 to R424, R434, R436), and placing an instruction where the next step fetches. -/

namespace Sys2Proof.Machine

/-! ### Breakpoints -/

/-- A breakpoint contains an address: `address <= x <= endAddress` (R436). -/
def Breakpoint.contains (b : Breakpoint) (x : Word) : Bool :=
  decide (b.address.toNat ≤ x.toNat) && decide (x.toNat ≤ (b.endAddress.getD b.address).toNat)

/-- Some PC-kind breakpoint contains PC (R401 line 5). -/
def pcBreak (s : State) : Bool := s.breakpoints.any fun b => b.kind == .pc && b.contains s.pc

/-- A breakpoint that an access hits: of the access's kind or of kind Access (R436). -/
def Breakpoint.hitBy (b : Breakpoint) (x : BusAccess) : Bool :=
  (b.kind == .access || b.kind == (match x.dir with
    | .read => BreakKind.read
    | .write => BreakKind.write)) && b.contains x.addr

/-- `accessHit`: the first access in order that some breakpoint is hit by, with the kind of the first such
breakpoint of the set and the address (R402, R436; log 13). -/
def firstHit (bps : List Breakpoint) : List BusAccess → Option (BreakKind × Word)
  | [] => none
  | x :: xs =>
    match bps.find? fun b => b.hitBy x with
    | some b => some (b.kind, x.addr)
    | none => firstHit bps xs

/-! ### One instruction -/

/-- Before an instruction: the scratch and the outputs of the step are cleared (R36, R402). -/
def clearOutputs (s : State) : State :=
  { s with
    penalty := false
    cycles := 0
    tick := none
    bus := { s.bus with accesses := [], deviceWrites := [] } }

/-- After an instruction (R402): if its rule halted, no cycles and no tick; else the tick, and then a halt
if an access breakpoint was hit. -/
def finishInstruction (s : State) : State :=
  match s.run with
  | .stopped => s
  | .running =>
    let s := { s with tick := some s.cycles }
    match firstHit s.breakpoints s.bus.accesses with
    | some (k, a) => halt (.breakpoint k a) s
    | none => s

/-- The outcome of an instruction with a state function applied to its next state. -/
def Result.map (f : State → State) : Result → Result
  | .next s => .next (f s)
  | .fault r => .fault r
  | .refused r => .refused r

/-- Executing one instruction (R402): fetch its bytes, decode them, run its meaning. -/
def executeInstruction (s : State) : Result :=
  let f := fetchInstr (clearOutputs s)
  match decode f.1 with
  | .ok (i, _) => Result.map finishInstruction (exec i f.2)
  | .error e => .refused (.undecodable e)

/-! ### The boundary -/

/-- Interrupt entry for NMI or IRQ: PC is pushed as it is, bit 4 clear, seven cycles and a tick (R423). -/
def interruptEntry (vec : Word) (s : State) : State :=
  let s := charge 7 (enterInterrupt s.pc false vec (clearOutputs s))
  { s with tick := some s.cycles }

/-- After the core's step at a boundary: the next boundary is not the first any more, and a single step from
Stopped returns there, with Paused for its reason unless a halt gave one (R401, R434). -/
def closeBoundary (s : State) : State :=
  let t := { s with firstBoundary := false, singleStep := false }
  match s.run with
  | .stopped => { t with pauseRequest := false }
  | .running => if s.singleStep then { halt .paused t with pauseRequest := false } else t

/-- The core's step at a boundary, with the core Running and the IRQ level given: the first of the six lines
of R401 that applies. -/
def coreStep (irqLine : Bool) (s : State) : Result :=
  if s.resetRequest then
    .next (closeBoundary (resetSequence { clearOutputs s with resetRequest := false }))
  else if s.pauseRequest && !s.singleStep then
    .next (closeBoundary (halt .paused s))
  else if s.nmiPending then
    .next (closeBoundary (interruptEntry s.params.vecNmi { s with nmiPending := false }))
  else if irqLine && !s.flagI then
    .next (closeBoundary (interruptEntry s.params.vecIrq s))
  else if pcBreak s && !s.firstBoundary then
    .next (closeBoundary (halt (.breakpoint .pc s.pc) s))
  else Result.map closeBoundary (executeInstruction s)

/-- The inputs of the coming boundary and the state with them taken off the schedule; an empty schedule is
quiet (log 11). -/
def nextBoundary (s : State) : Boundary × State :=
  match s.schedule with
  | [] => (⟨[], false, false⟩, s)
  | e :: rest => (e, { s with schedule := rest })

/-- A falling edge on NMI sets the latch (R422). -/
def latchNmi (edge : Bool) (s : State) : State := { s with nmiPending := s.nmiPending || edge }

/-- The host's moves and the NMI edge before the boundary, with the last step's outputs cleared. -/
def openBoundary (e : Boundary) (s : State) : State :=
  latchNmi e.nmiEdge (hostMoves e.commands (clearOutputs s))

/-- One boundary: the inputs, then, if the core is Running, its step (R400, R401). A machine with an auxiliary
bank has no defined behaviour (R56, U18). -/
def atBoundary (s : State) : Result :=
  if s.bus.params.auxPresent then .refused .auxiliaryBank
  else
    let e := nextBoundary s
    let s := openBoundary e.1 e.2
    match s.run with
    | .stopped => .next s
    | .running => coreStep e.1.irqLine s

/-! ### Placing an instruction -/

/-- Store a byte in the cell that a read of an address comes from; nothing in the I/O page. -/
def pokeFetched (a : Word) (v : Byte) (b : Bus) : Bus :=
  match b.readMap a with
  | some (st, i) => b.poke st i v
  | none => b

/-- Three bytes from an address on can be fetched from stores. -/
def fetchable (a : Word) : Bool := !isIo a && !isIo (a + 1) && !isIo (a + 2)

/-- The state in which the very next step fetches and runs the instruction with these bytes: they stand at
PC (moved to $0000 if bytes at PC would lie in the I/O page, log 20), the core is Running at the first
boundary after `run`, and no input is pending (log 1). -/
def placeInstruction (bytes : List Byte) (s : State) : State :=
  let pc := if fetchable s.pc then s.pc else 0
  let bus := match bytes with
    | [b0, b1, b2] => pokeFetched (pc + 2) b2 (pokeFetched (pc + 1) b1 (pokeFetched pc b0 s.bus))
    | _ => s.bus
  { s with
    pc := pc
    bus := bus
    run := .running
    firstBoundary := true
    resetRequest := false
    pauseRequest := false
    nmiPending := false
    schedule := [] }

end Sys2Proof.Machine
end

