-- ==== Sys2Proof/Machine/Step.lean ====
section
/-! DEFINITION. The step function and the placing of an opcode-table word where it fetches. -/

namespace Sys2Proof.Machine

/-- One step (60_exceptions.md R400, R401). A Stopped core with no input left to come takes no step (R37):
that is the machine's one fault (logs 1 and 10). -/
def step (s : State) : Host.Outcome State Fault Refusal :=
  match s.run, s.schedule with
  | .stopped, [] => .fault (.coreStopped s.stopReason)
  | _, _ => atBoundary s

/-- `s` with the instruction of an opcode-table word stored where the very next step fetches it. -/
def State.withFetchWord (s : State) (nbits w : Nat) : State :=
  placeInstruction (tableBytes nbits w) s

end Sys2Proof.Machine
end

