-- ==== Sys2Proof/Safety.lean ====
section
/-! DEFINITION. The terms in which claims about the machine are made: which fields two states agree on, the
invariant of the machine's states, the quiet boundary at which an instruction is executed, and safe runs. -/

namespace Sys2Proof.Machine

/-! ### Frames -/

/-- The fields of a state, for saying which of them an instruction leaves alone. -/
inductive Field where
  | params
  | a | x | y | sp | pc
  | flagN | flagV | flagD | flagI | flagZ | flagC | flagB
  | nmiPending | penalty | bus | run | stopReason | breakpoints | brkHalt
  | resetRequest | pauseRequest | singleStep | firstBoundary | schedule | draws | cycles | tick
  deriving DecidableEq, Repr

/-- Two states agree on a field. -/
def Field.same (f : Field) (s t : State) : Prop :=
  match f with
  | .params => t.params = s.params
  | .a => t.a = s.a
  | .x => t.x = s.x
  | .y => t.y = s.y
  | .sp => t.sp = s.sp
  | .pc => t.pc = s.pc
  | .flagN => t.flagN = s.flagN
  | .flagV => t.flagV = s.flagV
  | .flagD => t.flagD = s.flagD
  | .flagI => t.flagI = s.flagI
  | .flagZ => t.flagZ = s.flagZ
  | .flagC => t.flagC = s.flagC
  | .flagB => t.flagB = s.flagB
  | .nmiPending => t.nmiPending = s.nmiPending
  | .penalty => t.penalty = s.penalty
  | .bus => t.bus = s.bus
  | .run => t.run = s.run
  | .stopReason => t.stopReason = s.stopReason
  | .breakpoints => t.breakpoints = s.breakpoints
  | .brkHalt => t.brkHalt = s.brkHalt
  | .resetRequest => t.resetRequest = s.resetRequest
  | .pauseRequest => t.pauseRequest = s.pauseRequest
  | .singleStep => t.singleStep = s.singleStep
  | .firstBoundary => t.firstBoundary = s.firstBoundary
  | .schedule => t.schedule = s.schedule
  | .draws => t.draws = s.draws
  | .cycles => t.cycles = s.cycles
  | .tick => t.tick = s.tick

/-- Every field of `t` but those listed is as in `s`. -/
def Unchanged (but : List Field) (s t : State) : Prop := ∀ f : Field, f ∉ but → f.same s t

/-- Every byte of every store of `c` is as in `b`. -/
def SameStores (b c : Bus) : Prop := ∀ (st : Store) (i : Nat), c.byteAt st i = b.byteAt st i

/-- Every byte of every store of `c` is as in `b`, but perhaps one cell. -/
def SameStoresBut (cell : Option (Store × Nat)) (b c : Bus) : Prop :=
  ∀ (st : Store) (i : Nat), cell ≠ some (st, i) → c.byteAt st i = b.byteAt st i

/-- The four language-card bits of `c` are as in `b`. -/
def SameCard (b c : Bus) : Prop :=
  c.lcBank2 = b.lcBank2 ∧ c.lcReadRam = b.lcReadRam ∧ c.lcWriteRam = b.lcWriteRam ∧
    c.lcPreWrite = b.lcPreWrite

/-! ### The invariant -/

/-- The indexes a store has (R38, R39). -/
def Store.hasIndex (st : Store) (i : Nat) : Bool :=
  match st with
  | .ram => decide (i < 0xC000)
  | .lc1 | .lc2 => decide (i < 0x1000)
  | .lch => decide (i < 0x2000)
  | .rom => decide (0xC100 ≤ i) && decide (i < 0x10000)

/-- A store is in canonical form and lists no index it does not have. -/
def Bus.storeOk (b : Bus) (st : Store) : Prop :=
  (b.store st).wf = true ∧ ∀ c ∈ b.store st, st.hasIndex c.1 = true

/-- A half of the dispatch table lists no entry twice and none of the language card's (R73). -/
def Bus.handlersOk (b : Bus) (l : List Byte) : Prop := l.Nodup ∧ ∀ e ∈ l, b.isCardEntry e = false

/-- The configurations of the decoder the spec allows: the sixteen switches are a row of the I/O page
(R66, R67), and there is no auxiliary bank (R56). -/
def paramsOk (p : Config.BusParams) : Prop :=
  p.lcBase.toNat % 16 = 0 ∧ 0xC000 ≤ p.lcBase.toNat ∧ p.lcBase.toNat ≤ 0xC0F0 ∧ p.auxPresent = false

/-- The configurations of the core the spec allows: no byte but $CB and $DB can be unimplemented (R292), the
offset is 0 or 1 (92_eei_decisions.md D24), and `DEC_SBC` is decimal subtraction on valid BCD, as the default
body is (R177, properties P1 and P3). -/
def coreParamsOk (p : Config.CoreParams) : Prop :=
  (∀ op ∈ p.unimplementedOpcodes, op = 0xCB ∨ op = 0xDB) ∧
    (p.brkHaltPcOffset = 0 ∨ p.brkHaltPcOffset = 1) ∧
    ∀ e ∈ p.decSbc, isBcd e.a = true → isBcd e.m = true →
      (e.r, e.cOut) = decSbcDefault e.a e.m e.c

/-- The invariant of the bus. -/
structure Bus.Inv (b : Bus) : Prop where
  params : paramsOk b.params
  stores : ∀ st, b.storeOk st
  readHandlers : b.handlersOk b.readHandlers
  writeHandlers : b.handlersOk b.writeHandlers

/-- The invariant of the machine: the configuration is allowed, the stores are canonical and in range, the
tables hold nothing twice, and a Stopped core has no request pending (R431, R432, R434). -/
structure State.Inv (s : State) : Prop where
  params : coreParamsOk s.params
  bus : s.bus.Inv
  breakpoints : s.breakpoints.Nodup
  stopped : s.run = .stopped →
    s.resetRequest = false ∧ s.pauseRequest = false ∧ s.singleStep = false ∧ s.firstBoundary = false

/-! ### Boundaries and runs -/

/-- The coming boundary brings no input, nothing is pending, and no PC breakpoint stops the core: the step
is the execution of one instruction (R401 line 6). -/
def State.Quiet (s : State) : Prop :=
  s.bus.params.auxPresent = false ∧ s.run = .running ∧ s.schedule = [] ∧
    s.resetRequest = false ∧ s.pauseRequest = false ∧ s.nmiPending = false ∧
    (pcBreak s = false ∨ s.firstBoundary = true)

/-! ### How a run ends (R454) -/

/-- The instruction at `e` is a one-instruction loop: `80 FE` (BRA to itself) or `4C lo hi` (JMP to itself),
standing in readable stores (R454). -/
def Bus.SelfLoopAt (b : Bus) (e : Word) : Prop :=
  (b.peek e = some 0x80 ∧ b.peek (e + 1) = some 0xFE) ∨
    (b.peek e = some 0x4C ∧ b.peek (e + 1) = some (loByte e) ∧ b.peek (e + 2) = some (hiByte e))

/-- The program ended in a fault: the core was stopped by an unimplemented opcode or by a BRK in
debugger-break mode, which is "a fault, not an end" (R413, R454). -/
def State.Stuck (s : State) : Prop :=
  s.run = .stopped ∧
    ((∃ opcode pc, s.stopReason = .unimplementedOpcode opcode pc) ∨ ∃ pc, s.stopReason = .brk pc)

/-- "Program P terminates at address e": PC = e and the instruction at e is a self-loop, and this is not an
ending in a fault (R454). -/
def State.TerminatesAt (e : Word) (s : State) : Prop :=
  s.pc = e ∧ s.bus.SelfLoopAt e ∧ ¬ s.Stuck

/-- The machine started in `s` terminates at `e` within `k` steps, with no fault and no refusal on the way. -/
def RunTerminatesAt (k : Nat) (s : State) (e : Word) : Prop :=
  ∃ j t, j ≤ k ∧ Sys2Proof.core.run j s = .next t ∧ t.TerminatesAt e

/-- A run of `k` steps that meets no fault, no refusal, no unimplemented opcode and no BRK halt. -/
def SafeRun (k : Nat) (s : State) : Prop :=
  ∀ j, j ≤ k → ∃ t, Sys2Proof.core.run j s = .next t ∧ ¬ t.Stuck

end Sys2Proof.Machine
end

