-- ==== Sys2Proof/Certificates/Slice0/Obligations.lean ====
section
/-! DEFINITION. The statements for the provers. The first part is the vocabulary they share: the operand
tables of the spec's instruction rules, written out from 30_encoding.md R106 row by row, and the shapes in
which an instruction's effect and its frame are stated. Each statement's docstring names the rule of spec/ it
formalises. A statement about `exec` is about an instruction whose bytes have been fetched: PC is past it;
`StepRunsDecodedInstruction` and `EveryStepDecodes` carry it to `step`. -/

namespace Sys2Proof.Claims
open Sys2Proof.Machine

/-! ### Rows of the operand tables -/

/-- A row of an operand table: the instruction, its operand in its mode, and the row's opcode byte, length in
bytes, base cycles, and whether "+1 if page crossed" stands in it (R106). -/
structure Row where
  i : Instr
  o : Operand
  opcode : Byte
  bytes : Nat
  cycles : Nat
  penalty : Bool
  deriving DecidableEq, Repr

/-- The opcode byte followed by the operand's bytes is the instruction, in the row's length: the encoder
writes it and the decoder reads it, whatever bytes follow (R100, R101, R103). -/
def Row.Encoded (r : Row) : Prop :=
  encode r.i = r.opcode :: r.o.bytes ∧ (encode r.i).length = r.bytes ∧
    ∀ rest, decode (r.opcode :: (r.o.bytes ++ rest)) = .ok (r.i, rest)

/-- The cycles of a row: the base count, and the page-cross bit where the row adds it (R471). -/
def Row.cost (r : Row) (t : State) : Nat := r.cycles + if r.penalty then t.penalty.toNat else 0

/-- N and Z are those of `SetNZ(v)`: N iff bit 7 of `v` is set, Z iff `v` is 0 (R9, R26, R28). -/
def NZ (v : Byte) (t : State) : Prop :=
  (t.flagN = true ↔ 128 ≤ v.toNat) ∧ (t.flagZ = true ↔ v.toNat = 0)

/-- An addressing mode: an operand with its values forgotten (R101). -/
def modeOf : Operand → Operand
  | .imp => .imp
  | .acc => .acc
  | .imm _ => .imm 0
  | .zp _ => .zp 0
  | .zpx _ => .zpx 0
  | .zpy _ => .zpy 0
  | .abs _ => .abs 0
  | .abx _ => .abx 0
  | .aby _ => .aby 0
  | .ind _ => .ind 0
  | .iax _ => .iax 0
  | .izx _ => .izx 0
  | .izy _ => .izy 0
  | .izp _ => .izp 0
  | .rel _ => .rel 0
  | .zpr _ _ => .zpr 0 0

/-! ### Shapes of an instruction's effect, each with its frame -/

/-- An instruction that works on registers and flags alone: from every state it completes, with the effect,
the row's cycles, and everything but the listed fields as before; so memory is untouched. -/
def Row.Simple (r : Row) (but : List Field) (effect : State → State → Prop) : Prop :=
  ∀ s : State, ∃ t : State, exec r.i s = .next t ∧ effect s t ∧ t.cycles = r.cycles ∧
    Unchanged (.cycles :: but) s t

/-- An instruction that reads its operand: from every state it completes; the operand's byte is `m` and
`s1` the state after the operand's reads (`operandByte`); the bus is as those reads leave it, so there is no
other access; no byte of any store changes; the cycles are the row's and `more`; everything but the listed
fields, the bus and the page-cross bit is as before. -/
def Row.Reads (r : Row) (more : State → Nat) (but : List Field)
    (effect : State → Byte → State → Prop) : Prop :=
  ∀ s : State, ∃ (m : Byte) (s1 t : State),
    operandByte r.o s = some (m, s1) ∧ exec r.i s = .next t ∧ effect s m t ∧
    t.bus = s1.bus ∧ t.penalty = s1.penalty ∧ SameStores s.bus t.bus ∧
    t.cycles = r.cost t + more s ∧ Unchanged (.bus :: .penalty :: .cycles :: but) s t

/-- No cycles beyond the row's. -/
def none' : State → Nat := fun _ => 0

/-- A byte `v` written at `ea` to the bus `b` has landed: every byte of every store is as in `before` but for
the cell that a write to `ea` maps to, and that cell, if there is one, holds `v` in `after`. -/
def Landed (b : Bus) (ea : Word) (v : Byte) (before after : Bus) : Prop :=
  SameStoresBut (b.writeMap ea) before after ∧
    ∀ st i, b.writeMap ea = some (st, i) → (b.store st).wf = true → after.byteAt st i = v

/-- An instruction that stores a byte at its effective address (`effectiveAddress`): it completes, the only
access after the resolver's is the write, and everything else is as before. -/
def Row.Stores (r : Row) (value : State → Byte) : Prop :=
  ∀ s : State, ∃ (ea : Word) (s1 t : State),
    effectiveAddress r.o s = some (ea, s1) ∧ exec r.i s = .next t ∧
    t.bus = s1.bus.write ea (value s) ∧ Landed s1.bus ea (value s) s.bus t.bus ∧
    t.penalty = s1.penalty ∧ t.cycles = r.cost t ∧ Unchanged [.bus, .penalty, .cycles] s t

/-- A read-modify-write of memory (R210): at the effective address one read, then one write to the same
address; `result s m w` says what byte `w` is written when `m` is read, `effect` what becomes of the flags. -/
def Row.ModifiesMemory (r : Row) (but : List Field) (result : State → Byte → Byte → Prop)
    (effect : State → Byte → Byte → State → Prop) : Prop :=
  ∀ s : State, ∃ (ea : Word) (s1 : State) (m : Byte) (b : Bus) (w : Byte) (t : State),
    effectiveAddress r.o s = some (ea, s1) ∧ s1.bus.read ea = (m, b) ∧ exec r.i s = .next t ∧
    result s m w ∧ effect s m w t ∧ t.bus = b.write ea w ∧ Landed b ea w s.bus t.bus ∧
    t.penalty = s1.penalty ∧ t.cycles = r.cost t ∧
    Unchanged (.bus :: .penalty :: .cycles :: but) s t

/-- The accumulator form of such an instruction: A is both operand and destination and the bus is not
accessed (R132). -/
def Row.ModifiesA (r : Row) (but : List Field) (result : State → Byte → Byte → Prop)
    (effect : State → Byte → Byte → State → Prop) : Prop :=
  ∀ s : State, ∃ t : State, exec r.i s = .next t ∧ result s s.a t.a ∧ effect s s.a t.a t ∧
    t.cycles = r.cost t ∧ Unchanged (.a :: .cycles :: but) s t

/-- Either form, by the row's mode. -/
def Row.Modifies (r : Row) (but : List Field) (result : State → Byte → Byte → Prop)
    (effect : State → Byte → Byte → State → Prop) : Prop :=
  (r.o = .acc → r.ModifiesA but result effect) ∧
    (r.o ≠ .acc → r.ModifiesMemory but result effect)

/-! ### The stack -/

/-- The index in RAM of the stack byte `k` places above SP: page $01, wrapping inside it (R23). -/
def stackCell (sp : Byte) (k : Nat) : Nat := 0x100 + (sp.toNat + k) % 256

/-- The stack byte `k` places above SP. -/
def stackByte (s : State) (k : Nat) : Byte := s.bus.byteAt .ram (stackCell s.sp k)

/-- The bus after pushing bytes one by one, the first at SP (R9, R23). -/
def pushAll (sp : Byte) : List Byte → Bus → Bus
  | [], b => b
  | v :: vs, b => pushAll (sp - 1) vs (b.write (stackAddr sp) v)

/-- The bytes `vs` have been pushed from SP on, and nothing else has changed in any store. -/
def Pushed (sp : Byte) (vs : List Byte) (b c : Bus) : Prop :=
  c = pushAll sp vs b ∧
  (∀ k v, vs[k]? = some v → (b.store .ram).wf = true →
    c.byteAt .ram (stackCell sp (256 - k)) = v) ∧
  (∀ st i, (∀ k, k < vs.length → (st, i) ≠ (.ram, stackCell sp (256 - k))) →
    c.byteAt st i = b.byteAt st i)

/-- The bus with reads of the next `n` stack bytes noted: a pull reads page $01 and does nothing else. -/
def pulledBus (s : State) (n : Nat) : Bus :=
  { s.bus with
    accesses := s.bus.accesses ++
      (List.range n).map fun k => ⟨.read, BitVec.ofNat 16 (stackCell s.sp (k + 1)),
        stackByte s (k + 1)⟩ }

/-! ### Vectors, interrupts -/

/-- The byte a read of $E000-$FFFF gives: from LCH if `lcReadRam`, else from ROM (R57, R60). -/
def highByte (b : Bus) (a : Nat) : Byte :=
  if b.lcReadRam then b.byteAt .lch (a - 0xE000) else b.byteAt .rom a

/-- The little-endian word at `a` of $E000-$FFFE (R53). -/
def highWord (b : Bus) (a : Nat) : Nat := (highByte b a).toNat + 256 * (highByte b (a + 1)).toNat

/-- The bus with the two reads of a vector noted, the low byte first. -/
def vectorBus (b : Bus) (a : Nat) : Bus :=
  { b with
    accesses := b.accesses ++ [⟨.read, BitVec.ofNat 16 a, highByte b a⟩,
      ⟨.read, BitVec.ofNat 16 (a + 1), highByte b (a + 1)⟩] }

/-- An interrupt frame is pushed and the vector taken (R242, R423): `ret` high byte first, then the status
byte with bit 4 = `brk`; I set, D clear, B = `brk`; PC the word at the vector. -/
def Entered (ret : Word) (brk : Bool) (vec : Nat) (b : Bus) (s t : State) : Prop :=
  (∃ c, Pushed s.sp [hiByte ret, loByte ret, pack brk s] b c ∧ t.bus = vectorBus c vec) ∧
  t.sp.toNat = (s.sp.toNat + 253) % 256 ∧ t.pc.toNat = highWord s.bus vec ∧
  t.flagI = true ∧ t.flagD = false ∧ t.flagB = brk

/-! ### Arithmetic -/

/-- `sext_8` (R9). -/
def sext8 (v : Byte) : Int := if v.toNat < 128 then v.toNat else (v.toNat : Int) - 256

/-- A valid BCD byte (R12). -/
def validBcd (v : Byte) : Prop := v.toNat % 16 ≤ 9 ∧ v.toNat / 16 ≤ 9

/-- `dec(b) = 10*b[7:4] + b[3:0]` (R12). -/
def dec (v : Byte) : Nat := 10 * (v.toNat / 16) + v.toNat % 16

/-- `bcd(n) = ((n div 10) << 4) | (n mod 10)` (R12). -/
def bcd (n : Nat) : Nat := n / 10 * 16 + n % 10

/-! ### The operand tables -/

/-- LDA (R160). -/
def ldaRows (v : Byte) (z : Byte) (a : Word) : List Row :=
  [ ⟨.ldaIzx z, .izx z, 0xA1, 2, 6, false⟩,
    ⟨.ldaZp z, .zp z, 0xA5, 2, 3, false⟩,
    ⟨.ldaImm v, .imm v, 0xA9, 2, 2, false⟩,
    ⟨.ldaAbs a, .abs a, 0xAD, 3, 4, false⟩,
    ⟨.ldaIzy z, .izy z, 0xB1, 2, 5, true⟩,
    ⟨.ldaIzp z, .izp z, 0xB2, 2, 5, false⟩,
    ⟨.ldaZpx z, .zpx z, 0xB5, 2, 4, false⟩,
    ⟨.ldaAby a, .aby a, 0xB9, 3, 4, true⟩,
    ⟨.ldaAbx a, .abx a, 0xBD, 3, 4, true⟩ ]

/-- LDX (R161). -/
def ldxRows (v : Byte) (z : Byte) (a : Word) : List Row :=
  [ ⟨.ldxImm v, .imm v, 0xA2, 2, 2, false⟩,
    ⟨.ldxZp z, .zp z, 0xA6, 2, 3, false⟩,
    ⟨.ldxAbs a, .abs a, 0xAE, 3, 4, false⟩,
    ⟨.ldxZpy z, .zpy z, 0xB6, 2, 4, false⟩,
    ⟨.ldxAby a, .aby a, 0xBE, 3, 4, true⟩ ]

/-- LDY (R162). -/
def ldyRows (v : Byte) (z : Byte) (a : Word) : List Row :=
  [ ⟨.ldyImm v, .imm v, 0xA0, 2, 2, false⟩,
    ⟨.ldyZp z, .zp z, 0xA4, 2, 3, false⟩,
    ⟨.ldyAbs a, .abs a, 0xAC, 3, 4, false⟩,
    ⟨.ldyZpx z, .zpx z, 0xB4, 2, 4, false⟩,
    ⟨.ldyAbx a, .abx a, 0xBC, 3, 4, true⟩ ]

/-- STA (R163). -/
def staRows (z : Byte) (a : Word) : List Row :=
  [ ⟨.staIzx z, .izx z, 0x81, 2, 6, false⟩,
    ⟨.staZp z, .zp z, 0x85, 2, 3, false⟩,
    ⟨.staAbs a, .abs a, 0x8D, 3, 4, false⟩,
    ⟨.staIzy z, .izy z, 0x91, 2, 6, false⟩,
    ⟨.staIzp z, .izp z, 0x92, 2, 5, false⟩,
    ⟨.staZpx z, .zpx z, 0x95, 2, 4, false⟩,
    ⟨.staAby a, .aby a, 0x99, 3, 5, false⟩,
    ⟨.staAbx a, .abx a, 0x9D, 3, 5, false⟩ ]

/-- STX (R164). -/
def stxRows (z : Byte) (a : Word) : List Row :=
  [ ⟨.stxZp z, .zp z, 0x86, 2, 3, false⟩,
    ⟨.stxAbs a, .abs a, 0x8E, 3, 4, false⟩,
    ⟨.stxZpy z, .zpy z, 0x96, 2, 4, false⟩ ]

/-- STY (R165). -/
def styRows (z : Byte) (a : Word) : List Row :=
  [ ⟨.styZp z, .zp z, 0x84, 2, 3, false⟩,
    ⟨.styAbs a, .abs a, 0x8C, 3, 4, false⟩,
    ⟨.styZpx z, .zpx z, 0x94, 2, 4, false⟩ ]

/-- STZ (R166). -/
def stzRows (z : Byte) (a : Word) : List Row :=
  [ ⟨.stzZp z, .zp z, 0x64, 2, 3, false⟩,
    ⟨.stzZpx z, .zpx z, 0x74, 2, 4, false⟩,
    ⟨.stzAbs a, .abs a, 0x9C, 3, 4, false⟩,
    ⟨.stzAbx a, .abx a, 0x9E, 3, 5, false⟩ ]

/-- ADC (R170). -/
def adcRows (v : Byte) (z : Byte) (a : Word) : List Row :=
  [ ⟨.adcIzx z, .izx z, 0x61, 2, 6, false⟩,
    ⟨.adcZp z, .zp z, 0x65, 2, 3, false⟩,
    ⟨.adcImm v, .imm v, 0x69, 2, 2, false⟩,
    ⟨.adcAbs a, .abs a, 0x6D, 3, 4, false⟩,
    ⟨.adcIzy z, .izy z, 0x71, 2, 5, true⟩,
    ⟨.adcIzp z, .izp z, 0x72, 2, 5, false⟩,
    ⟨.adcZpx z, .zpx z, 0x75, 2, 4, false⟩,
    ⟨.adcAby a, .aby a, 0x79, 3, 4, true⟩,
    ⟨.adcAbx a, .abx a, 0x7D, 3, 4, true⟩ ]

/-- SBC (R173). -/
def sbcRows (v : Byte) (z : Byte) (a : Word) : List Row :=
  [ ⟨.sbcIzx z, .izx z, 0xE1, 2, 6, false⟩,
    ⟨.sbcZp z, .zp z, 0xE5, 2, 3, false⟩,
    ⟨.sbcImm v, .imm v, 0xE9, 2, 2, false⟩,
    ⟨.sbcAbs a, .abs a, 0xED, 3, 4, false⟩,
    ⟨.sbcIzy z, .izy z, 0xF1, 2, 5, true⟩,
    ⟨.sbcIzp z, .izp z, 0xF2, 2, 5, false⟩,
    ⟨.sbcZpx z, .zpx z, 0xF5, 2, 4, false⟩,
    ⟨.sbcAby a, .aby a, 0xF9, 3, 4, true⟩,
    ⟨.sbcAbx a, .abx a, 0xFD, 3, 4, true⟩ ]

/-- CMP (R180). -/
def cmpRows (v : Byte) (z : Byte) (a : Word) : List Row :=
  [ ⟨.cmpIzx z, .izx z, 0xC1, 2, 6, false⟩,
    ⟨.cmpZp z, .zp z, 0xC5, 2, 3, false⟩,
    ⟨.cmpImm v, .imm v, 0xC9, 2, 2, false⟩,
    ⟨.cmpAbs a, .abs a, 0xCD, 3, 4, false⟩,
    ⟨.cmpIzy z, .izy z, 0xD1, 2, 5, true⟩,
    ⟨.cmpIzp z, .izp z, 0xD2, 2, 5, false⟩,
    ⟨.cmpZpx z, .zpx z, 0xD5, 2, 4, false⟩,
    ⟨.cmpAby a, .aby a, 0xD9, 3, 4, true⟩,
    ⟨.cmpAbx a, .abx a, 0xDD, 3, 4, true⟩ ]

/-- CPX (R181). -/
def cpxRows (v : Byte) (z : Byte) (a : Word) : List Row :=
  [ ⟨.cpxImm v, .imm v, 0xE0, 2, 2, false⟩,
    ⟨.cpxZp z, .zp z, 0xE4, 2, 3, false⟩,
    ⟨.cpxAbs a, .abs a, 0xEC, 3, 4, false⟩ ]

/-- CPY (R182). -/
def cpyRows (v : Byte) (z : Byte) (a : Word) : List Row :=
  [ ⟨.cpyImm v, .imm v, 0xC0, 2, 2, false⟩,
    ⟨.cpyZp z, .zp z, 0xC4, 2, 3, false⟩,
    ⟨.cpyAbs a, .abs a, 0xCC, 3, 4, false⟩ ]

/-- AND (R184). -/
def andRows (v : Byte) (z : Byte) (a : Word) : List Row :=
  [ ⟨.andIzx z, .izx z, 0x21, 2, 6, false⟩,
    ⟨.andZp z, .zp z, 0x25, 2, 3, false⟩,
    ⟨.andImm v, .imm v, 0x29, 2, 2, false⟩,
    ⟨.andAbs a, .abs a, 0x2D, 3, 4, false⟩,
    ⟨.andIzy z, .izy z, 0x31, 2, 5, true⟩,
    ⟨.andIzp z, .izp z, 0x32, 2, 5, false⟩,
    ⟨.andZpx z, .zpx z, 0x35, 2, 4, false⟩,
    ⟨.andAby a, .aby a, 0x39, 3, 4, true⟩,
    ⟨.andAbx a, .abx a, 0x3D, 3, 4, true⟩ ]

/-- ORA (R185). -/
def oraRows (v : Byte) (z : Byte) (a : Word) : List Row :=
  [ ⟨.oraIzx z, .izx z, 0x01, 2, 6, false⟩,
    ⟨.oraZp z, .zp z, 0x05, 2, 3, false⟩,
    ⟨.oraImm v, .imm v, 0x09, 2, 2, false⟩,
    ⟨.oraAbs a, .abs a, 0x0D, 3, 4, false⟩,
    ⟨.oraIzy z, .izy z, 0x11, 2, 5, true⟩,
    ⟨.oraIzp z, .izp z, 0x12, 2, 5, false⟩,
    ⟨.oraZpx z, .zpx z, 0x15, 2, 4, false⟩,
    ⟨.oraAby a, .aby a, 0x19, 3, 4, true⟩,
    ⟨.oraAbx a, .abx a, 0x1D, 3, 4, true⟩ ]

/-- EOR (R186). -/
def eorRows (v : Byte) (z : Byte) (a : Word) : List Row :=
  [ ⟨.eorIzx z, .izx z, 0x41, 2, 6, false⟩,
    ⟨.eorZp z, .zp z, 0x45, 2, 3, false⟩,
    ⟨.eorImm v, .imm v, 0x49, 2, 2, false⟩,
    ⟨.eorAbs a, .abs a, 0x4D, 3, 4, false⟩,
    ⟨.eorIzy z, .izy z, 0x51, 2, 5, true⟩,
    ⟨.eorIzp z, .izp z, 0x52, 2, 5, false⟩,
    ⟨.eorZpx z, .zpx z, 0x55, 2, 4, false⟩,
    ⟨.eorAby a, .aby a, 0x59, 3, 4, true⟩,
    ⟨.eorAbx a, .abx a, 0x5D, 3, 4, true⟩ ]

/-- BIT, memory forms (R187). -/
def bitRows (z : Byte) (a : Word) : List Row :=
  [ ⟨.bitZp z, .zp z, 0x24, 2, 3, false⟩,
    ⟨.bitAbs a, .abs a, 0x2C, 3, 4, false⟩,
    ⟨.bitZpx z, .zpx z, 0x34, 2, 4, false⟩,
    ⟨.bitAbx a, .abx a, 0x3C, 3, 4, true⟩ ]

/-- BIT, immediate form (R187). -/
def bitImmRows (v : Byte) : List Row :=
  [ ⟨.bitImm v, .imm v, 0x89, 2, 2, false⟩ ]

/-- TSB (R188). -/
def tsbRows (z : Byte) (a : Word) : List Row :=
  [ ⟨.tsbZp z, .zp z, 0x04, 2, 5, false⟩,
    ⟨.tsbAbs a, .abs a, 0x0C, 3, 6, false⟩ ]

/-- TRB (R189). -/
def trbRows (z : Byte) (a : Word) : List Row :=
  [ ⟨.trbZp z, .zp z, 0x14, 2, 5, false⟩,
    ⟨.trbAbs a, .abs a, 0x1C, 3, 6, false⟩ ]

/-- ASL (R200). -/
def aslRows (z : Byte) (a : Word) : List Row :=
  [ ⟨.aslZp z, .zp z, 0x06, 2, 5, false⟩,
    ⟨.aslAcc, .acc, 0x0A, 1, 2, false⟩,
    ⟨.aslAbs a, .abs a, 0x0E, 3, 6, false⟩,
    ⟨.aslZpx z, .zpx z, 0x16, 2, 6, false⟩,
    ⟨.aslAbx a, .abx a, 0x1E, 3, 6, true⟩ ]

/-- LSR (R201). -/
def lsrRows (z : Byte) (a : Word) : List Row :=
  [ ⟨.lsrZp z, .zp z, 0x46, 2, 5, false⟩,
    ⟨.lsrAcc, .acc, 0x4A, 1, 2, false⟩,
    ⟨.lsrAbs a, .abs a, 0x4E, 3, 6, false⟩,
    ⟨.lsrZpx z, .zpx z, 0x56, 2, 6, false⟩,
    ⟨.lsrAbx a, .abx a, 0x5E, 3, 6, true⟩ ]

/-- ROL (R202). -/
def rolRows (z : Byte) (a : Word) : List Row :=
  [ ⟨.rolZp z, .zp z, 0x26, 2, 5, false⟩,
    ⟨.rolAcc, .acc, 0x2A, 1, 2, false⟩,
    ⟨.rolAbs a, .abs a, 0x2E, 3, 6, false⟩,
    ⟨.rolZpx z, .zpx z, 0x36, 2, 6, false⟩,
    ⟨.rolAbx a, .abx a, 0x3E, 3, 6, true⟩ ]

/-- ROR (R203). -/
def rorRows (z : Byte) (a : Word) : List Row :=
  [ ⟨.rorZp z, .zp z, 0x66, 2, 5, false⟩,
    ⟨.rorAcc, .acc, 0x6A, 1, 2, false⟩,
    ⟨.rorAbs a, .abs a, 0x6E, 3, 6, false⟩,
    ⟨.rorZpx z, .zpx z, 0x76, 2, 6, false⟩,
    ⟨.rorAbx a, .abx a, 0x7E, 3, 6, true⟩ ]

/-- INC (R204). -/
def incRows (z : Byte) (a : Word) : List Row :=
  [ ⟨.incAcc, .acc, 0x1A, 1, 2, false⟩,
    ⟨.incZp z, .zp z, 0xE6, 2, 5, false⟩,
    ⟨.incAbs a, .abs a, 0xEE, 3, 6, false⟩,
    ⟨.incZpx z, .zpx z, 0xF6, 2, 6, false⟩,
    ⟨.incAbx a, .abx a, 0xFE, 3, 7, false⟩ ]

/-- DEC (R205). -/
def decRows (z : Byte) (a : Word) : List Row :=
  [ ⟨.decAcc, .acc, 0x3A, 1, 2, false⟩,
    ⟨.decZp z, .zp z, 0xC6, 2, 5, false⟩,
    ⟨.decAbs a, .abs a, 0xCE, 3, 6, false⟩,
    ⟨.decZpx z, .zpx z, 0xD6, 2, 6, false⟩,
    ⟨.decAbx a, .abx a, 0xDE, 3, 7, false⟩ ]

/-- The eight conditional branches and their conditions (R220). -/
def branchRows (d : Int) : List (Row × (State → Bool)) :=
  [ (⟨.bpl d, .rel d, 0x10, 2, 2, false⟩, fun s => !s.flagN),
    (⟨.bmi d, .rel d, 0x30, 2, 2, false⟩, fun s => s.flagN),
    (⟨.bvc d, .rel d, 0x50, 2, 2, false⟩, fun s => !s.flagV),
    (⟨.bvs d, .rel d, 0x70, 2, 2, false⟩, fun s => s.flagV),
    (⟨.bcc d, .rel d, 0x90, 2, 2, false⟩, fun s => !s.flagC),
    (⟨.bcs d, .rel d, 0xB0, 2, 2, false⟩, fun s => s.flagC),
    (⟨.bne d, .rel d, 0xD0, 2, 2, false⟩, fun s => !s.flagZ),
    (⟨.beq d, .rel d, 0xF0, 2, 2, false⟩, fun s => s.flagZ) ]

/-- BRA (R229). -/
def braRows (d : Int) : List Row :=
  [ ⟨.bra d, .rel d, 0x80, 2, 3, false⟩ ]

/-- JMP absolute (R230). -/
def jmpAbsRows (a : Word) : List Row :=
  [ ⟨.jmpAbs a, .abs a, 0x4C, 3, 3, false⟩ ]

/-- JMP indirect (R231). -/
def jmpIndRows (a : Word) : List Row :=
  [ ⟨.jmpInd a, .ind a, 0x6C, 3, 6, false⟩ ]

/-- JMP absolute-indexed-indirect (R232). -/
def jmpIaxRows (a : Word) : List Row :=
  [ ⟨.jmpIax a, .iax a, 0x7C, 3, 6, false⟩ ]

/-- JSR (R240). -/
def jsrRows (a : Word) : List Row :=
  [ ⟨.jsr a, .abs a, 0x20, 3, 6, false⟩ ]

/-- RTS (R241). -/
def rtsRows : List Row :=
  [ ⟨.rts, .imp, 0x60, 1, 6, false⟩ ]

/-- BRK (R242). -/
def brkRows : List Row :=
  [ ⟨.brk, .imp, 0x00, 1, 7, false⟩ ]

/-- RTI (R244). -/
def rtiRows : List Row :=
  [ ⟨.rti, .imp, 0x40, 1, 6, false⟩ ]

/-- RMBn with its bit number (R104, R250). -/
def rmbRows (z : Byte) : List (Row × Nat) :=
  [ (⟨.rmb0 z, .zp z, 0x07, 2, 5, false⟩, 0),
    (⟨.rmb1 z, .zp z, 0x17, 2, 5, false⟩, 1),
    (⟨.rmb2 z, .zp z, 0x27, 2, 5, false⟩, 2),
    (⟨.rmb3 z, .zp z, 0x37, 2, 5, false⟩, 3),
    (⟨.rmb4 z, .zp z, 0x47, 2, 5, false⟩, 4),
    (⟨.rmb5 z, .zp z, 0x57, 2, 5, false⟩, 5),
    (⟨.rmb6 z, .zp z, 0x67, 2, 5, false⟩, 6),
    (⟨.rmb7 z, .zp z, 0x77, 2, 5, false⟩, 7) ]

/-- SMBn with its bit number (R104, R251). -/
def smbRows (z : Byte) : List (Row × Nat) :=
  [ (⟨.smb0 z, .zp z, 0x87, 2, 5, false⟩, 0),
    (⟨.smb1 z, .zp z, 0x97, 2, 5, false⟩, 1),
    (⟨.smb2 z, .zp z, 0xA7, 2, 5, false⟩, 2),
    (⟨.smb3 z, .zp z, 0xB7, 2, 5, false⟩, 3),
    (⟨.smb4 z, .zp z, 0xC7, 2, 5, false⟩, 4),
    (⟨.smb5 z, .zp z, 0xD7, 2, 5, false⟩, 5),
    (⟨.smb6 z, .zp z, 0xE7, 2, 5, false⟩, 6),
    (⟨.smb7 z, .zp z, 0xF7, 2, 5, false⟩, 7) ]

/-- BBRn with its bit number (R104, R252). -/
def bbrRows (z : Byte) (d : Int) : List (Row × Nat) :=
  [ (⟨.bbr0 z d, .zpr z d, 0x0F, 3, 5, false⟩, 0),
    (⟨.bbr1 z d, .zpr z d, 0x1F, 3, 5, false⟩, 1),
    (⟨.bbr2 z d, .zpr z d, 0x2F, 3, 5, false⟩, 2),
    (⟨.bbr3 z d, .zpr z d, 0x3F, 3, 5, false⟩, 3),
    (⟨.bbr4 z d, .zpr z d, 0x4F, 3, 5, false⟩, 4),
    (⟨.bbr5 z d, .zpr z d, 0x5F, 3, 5, false⟩, 5),
    (⟨.bbr6 z d, .zpr z d, 0x6F, 3, 5, false⟩, 6),
    (⟨.bbr7 z d, .zpr z d, 0x7F, 3, 5, false⟩, 7) ]

/-- BBSn with its bit number (R104, R253). -/
def bbsRows (z : Byte) (d : Int) : List (Row × Nat) :=
  [ (⟨.bbs0 z d, .zpr z d, 0x8F, 3, 5, false⟩, 0),
    (⟨.bbs1 z d, .zpr z d, 0x9F, 3, 5, false⟩, 1),
    (⟨.bbs2 z d, .zpr z d, 0xAF, 3, 5, false⟩, 2),
    (⟨.bbs3 z d, .zpr z d, 0xBF, 3, 5, false⟩, 3),
    (⟨.bbs4 z d, .zpr z d, 0xCF, 3, 5, false⟩, 4),
    (⟨.bbs5 z d, .zpr z d, 0xDF, 3, 5, false⟩, 5),
    (⟨.bbs6 z d, .zpr z d, 0xEF, 3, 5, false⟩, 6),
    (⟨.bbs7 z d, .zpr z d, 0xFF, 3, 5, false⟩, 7) ]

/-- TXA and TYA with their source (R262, R263). -/
def transferToARows : List (Row × (State → Byte)) :=
  [ (⟨.txa, .imp, 0x8A, 1, 2, false⟩, fun s => s.x),
    (⟨.tya, .imp, 0x98, 1, 2, false⟩, fun s => s.y) ]

/-- TAX and TSX with their source (R260, R264). -/
def transferToXRows : List (Row × (State → Byte)) :=
  [ (⟨.tax, .imp, 0xAA, 1, 2, false⟩, fun s => s.a),
    (⟨.tsx, .imp, 0xBA, 1, 2, false⟩, fun s => s.sp) ]

/-- TAY (R261). -/
def tayRows : List Row :=
  [ ⟨.tay, .imp, 0xA8, 1, 2, false⟩ ]

/-- TXS (R265). -/
def txsRows : List Row :=
  [ ⟨.txs, .imp, 0x9A, 1, 2, false⟩ ]

/-- INX and DEX with what they add modulo 256 (R206, R208). -/
def stepXRows : List (Row × Nat) :=
  [ (⟨.inx, .imp, 0xE8, 1, 2, false⟩, 1),
    (⟨.dex, .imp, 0xCA, 1, 2, false⟩, 255) ]

/-- INY and DEY with what they add modulo 256 (R207, R209). -/
def stepYRows : List (Row × Nat) :=
  [ (⟨.iny, .imp, 0xC8, 1, 2, false⟩, 1),
    (⟨.dey, .imp, 0x88, 1, 2, false⟩, 255) ]

/-- PHA, PHX, PHY, PHP with the byte they push (R266, R268, R270, R272). -/
def pushRows : List (Row × (State → Byte)) :=
  [ (⟨.pha, .imp, 0x48, 1, 3, false⟩, fun s => s.a),
    (⟨.phx, .imp, 0xDA, 1, 3, false⟩, fun s => s.x),
    (⟨.phy, .imp, 0x5A, 1, 3, false⟩, fun s => s.y),
    (⟨.php, .imp, 0x08, 1, 3, false⟩, fun s => pack true s) ]

/-- PLA (R267). -/
def plaRows : List Row :=
  [ ⟨.pla, .imp, 0x68, 1, 4, false⟩ ]

/-- PLX (R269). -/
def plxRows : List Row :=
  [ ⟨.plx, .imp, 0xFA, 1, 4, false⟩ ]

/-- PLY (R271). -/
def plyRows : List Row :=
  [ ⟨.ply, .imp, 0x7A, 1, 4, false⟩ ]

/-- PLP (R273). -/
def plpRows : List Row :=
  [ ⟨.plp, .imp, 0x28, 1, 4, false⟩ ]

/-- The flag instructions with their flag and the value they give it (R274 to R280). -/
def flagRows : List (Row × Flag × Bool) :=
  [ (⟨.clc, .imp, 0x18, 1, 2, false⟩, .c, false),
    (⟨.sec, .imp, 0x38, 1, 2, false⟩, .c, true),
    (⟨.cli, .imp, 0x58, 1, 2, false⟩, .i, false),
    (⟨.sei, .imp, 0x78, 1, 2, false⟩, .i, true),
    (⟨.cld, .imp, 0xD8, 1, 2, false⟩, .d, false),
    (⟨.sed, .imp, 0xF8, 1, 2, false⟩, .d, true),
    (⟨.clv, .imp, 0xB8, 1, 2, false⟩, .v, false) ]

/-- NOP and the 44 reserved NOPs (R281, R286 to R291). -/
def nopRows (v : Byte) (z : Byte) (a : Word) : List Row :=
  [ ⟨.nop02 v, .imm v, 0x02, 2, 2, false⟩,
    ⟨.nop03, .imp, 0x03, 1, 1, false⟩,
    ⟨.nop0B, .imp, 0x0B, 1, 1, false⟩,
    ⟨.nop13, .imp, 0x13, 1, 1, false⟩,
    ⟨.nop1B, .imp, 0x1B, 1, 1, false⟩,
    ⟨.nop22 v, .imm v, 0x22, 2, 2, false⟩,
    ⟨.nop23, .imp, 0x23, 1, 1, false⟩,
    ⟨.nop2B, .imp, 0x2B, 1, 1, false⟩,
    ⟨.nop33, .imp, 0x33, 1, 1, false⟩,
    ⟨.nop3B, .imp, 0x3B, 1, 1, false⟩,
    ⟨.nop42 v, .imm v, 0x42, 2, 2, false⟩,
    ⟨.nop43, .imp, 0x43, 1, 1, false⟩,
    ⟨.nop44 z, .zp z, 0x44, 2, 3, false⟩,
    ⟨.nop4B, .imp, 0x4B, 1, 1, false⟩,
    ⟨.nop53, .imp, 0x53, 1, 1, false⟩,
    ⟨.nop54 z, .zpx z, 0x54, 2, 4, false⟩,
    ⟨.nop5B, .imp, 0x5B, 1, 1, false⟩,
    ⟨.nop5C a, .abs a, 0x5C, 3, 8, false⟩,
    ⟨.nop62 v, .imm v, 0x62, 2, 2, false⟩,
    ⟨.nop63, .imp, 0x63, 1, 1, false⟩,
    ⟨.nop6B, .imp, 0x6B, 1, 1, false⟩,
    ⟨.nop73, .imp, 0x73, 1, 1, false⟩,
    ⟨.nop7B, .imp, 0x7B, 1, 1, false⟩,
    ⟨.nop82 v, .imm v, 0x82, 2, 2, false⟩,
    ⟨.nop83, .imp, 0x83, 1, 1, false⟩,
    ⟨.nop8B, .imp, 0x8B, 1, 1, false⟩,
    ⟨.nop93, .imp, 0x93, 1, 1, false⟩,
    ⟨.nop9B, .imp, 0x9B, 1, 1, false⟩,
    ⟨.nopA3, .imp, 0xA3, 1, 1, false⟩,
    ⟨.nopAB, .imp, 0xAB, 1, 1, false⟩,
    ⟨.nopB3, .imp, 0xB3, 1, 1, false⟩,
    ⟨.nopBB, .imp, 0xBB, 1, 1, false⟩,
    ⟨.nopC2 v, .imm v, 0xC2, 2, 2, false⟩,
    ⟨.nopC3, .imp, 0xC3, 1, 1, false⟩,
    ⟨.nopD3, .imp, 0xD3, 1, 1, false⟩,
    ⟨.nopD4 z, .zpx z, 0xD4, 2, 4, false⟩,
    ⟨.nopDC a, .abs a, 0xDC, 3, 4, false⟩,
    ⟨.nopE2 v, .imm v, 0xE2, 2, 2, false⟩,
    ⟨.nopE3, .imp, 0xE3, 1, 1, false⟩,
    ⟨.nop, .imp, 0xEA, 1, 2, false⟩,
    ⟨.nopEB, .imp, 0xEB, 1, 1, false⟩,
    ⟨.nopF3, .imp, 0xF3, 1, 1, false⟩,
    ⟨.nopF4 z, .zpx z, 0xF4, 2, 4, false⟩,
    ⟨.nopFB, .imp, 0xFB, 1, 1, false⟩,
    ⟨.nopFC a, .abs a, 0xFC, 3, 4, false⟩ ]

/-- The unimplemented opcodes (R292). -/
def unimplementedRows : List Row :=
  [ ⟨.unimplementedCB, .imp, 0xCB, 1, 0, false⟩,
    ⟨.unimplementedDB, .imp, 0xDB, 1, 0, false⟩ ]


/-- The field of a flag. -/
def flagField : Flag → Field
  | .n => .flagN
  | .v => .flagV
  | .d => .flagD
  | .i => .flagI
  | .z => .flagZ
  | .c => .flagC
  | .b => .flagB

/-- The field of an 8-bit register. -/
def regField : Reg8 → Field
  | .a => .a
  | .x => .x
  | .y => .y
  | .sp => .sp

/-- The host moves that edit the state between steps: all but run, pause, reset and step. -/
def isEdit : HostCommand → Bool
  | .run | .pause | .reset | .step => false
  | .load _ _ _ | .writeReg _ _ | .writePc _ | .writeFlag _ _ | .registerRead _ | .removeRead _
  | .registerWrite _ | .removeWrite _ | .addBreakpoint _ | .removeBreakpoint _ | .clearBreakpoints
  | .setBrkHalt _ => true

/-! ### Bus accesses, one after another -/

/-- One access of the core: direction, address and, for a write, the byte. -/
abbrev Touch := Dir × Word × Byte

/-- The bus after an access. -/
def touch (b : Bus) (x : Touch) : Bus :=
  match x.1 with
  | .read => (b.read x.2.1).2
  | .write => b.write x.2.1 x.2.2

/-- The bus after accesses, the first of the list first. -/
def touchAll (xs : List Touch) (b : Bus) : Bus := xs.foldl touch b

/-- An access of one of the sixteen switches $C080-$C08F (R66). -/
def OnSwitch (x : Touch) : Prop := 0xC080 ≤ x.2.1.toNat ∧ x.2.1.toNat ≤ 0xC08F

/-- A qualifying access: a read of an odd switch (R12). -/
def Qualifying (x : Touch) : Prop := OnSwitch x ∧ x.1 = .read ∧ x.2.1.toNat % 2 = 1

/-- A disabling access: any access of an even switch (R12). -/
def Disabling (x : Touch) : Prop := OnSwitch x ∧ x.2.1.toNat % 2 = 0

/-- The bytes read one after another from an address on, each a bus read, and the bus after them. -/
def readRun (b : Bus) (a : Word) : Nat → List Byte × Bus
  | 0 => ([], b)
  | n + 1 =>
    let r := b.read a
    let q := readRun r.2 (a + 1) n
    (r.1 :: q.1, q.2)

/-- The bus with one access noted and nothing else changed. -/
def noted (b : Bus) (d : Dir) (a : Word) (v : Byte) : Bus :=
  { b with accesses := b.accesses ++ [⟨d, a, v⟩] }

/-- The state at a boundary after its inputs: the schedule advanced, an NMI edge latched, the outputs of the
last step cleared. -/
def opened (s : State) (rest : List Boundary) (nmi : Bool) : State :=
  { s with
    schedule := rest
    nmiPending := s.nmiPending || nmi
    penalty := false
    cycles := 0
    tick := none
    bus := { s.bus with accesses := [], deviceWrites := [] } }

/-- The state from which `exec` runs the instruction at PC: PC past its `n` bytes, the bus `b` as the fetches
leave it, the outputs of the step cleared. -/
def fetched (s : State) (n : Nat) (b : Bus) : State :=
  { s with
    pc := s.pc + BitVec.ofNat 16 n
    bus := b
    penalty := false
    cycles := 0
    tick := none }

/-- The bytes of an instruction stand at PC, in readable stores (R53, R100). -/
def AtPc (i : Instr) (s : State) : Prop :=
  ∀ k v, (encode i)[k]? = some v → s.bus.peek (s.pc + BitVec.ofNat 16 k) = some v

/-- A breakpoint that a bus access hits: the address in its inclusive range, and its kind the access's
direction or Access (R436). -/
def Hits (b : Breakpoint) (x : BusAccess) : Prop :=
  b.address.toNat ≤ x.addr.toNat ∧ x.addr.toNat ≤ (b.endAddress.getD b.address).toNat ∧
    (b.kind = .access ∨ (b.kind = .read ∧ x.dir = .read) ∨ (b.kind = .write ∧ x.dir = .write))

/-- The cell that `load` names for an address: without a bank RAM or ROM, with one of the language card's
banks that store (R80). -/
def LoadCell (bank : Option Store) (a : Word) (st : Store) (i : Nat) : Prop :=
  match bank with
  | none =>
    (a.toNat ≤ 0xBFFF ∧ st = .ram ∧ i = a.toNat) ∨ (0xC100 ≤ a.toNat ∧ st = .rom ∧ i = a.toNat)
  | some .lc1 => 0xD000 ≤ a.toNat ∧ a.toNat ≤ 0xDFFF ∧ st = .lc1 ∧ i = a.toNat - 0xD000
  | some .lc2 => 0xD000 ≤ a.toNat ∧ a.toNat ≤ 0xDFFF ∧ st = .lc2 ∧ i = a.toNat - 0xD000
  | some .lch => 0xE000 ≤ a.toNat ∧ st = .lch ∧ i = a.toNat - 0xE000
  | some .ram => False
  | some .rom => False

/-- The core is Running with nothing pending inside, one step at a time is not asked for, and the coming
boundary brings these inputs and no host command. -/
def AtBoundary (s : State) (irq nmi : Bool) (rest : List Boundary) : Prop :=
  s.bus.params.auxPresent = false ∧ s.run = .running ∧ s.resetRequest = false ∧
    s.pauseRequest = false ∧ s.singleStep = false ∧ s.schedule = ⟨[], irq, nmi⟩ :: rest

/-- The fields an interrupt entry writes. -/
def entryFields : List Field :=
  [.bus, .sp, .pc, .flagI, .flagD, .flagB, .cycles, .tick, .penalty, .nmiPending, .schedule,
    .firstBoundary]

end Sys2Proof.Claims

open Sys2Proof Sys2Proof.Machine Sys2Proof.Claims

/-! ### Encoding -/

/-- R100, R101, R103: decoding the encoding of a well-formed instruction gives it back, with every operand at
every value, and leaves the bytes that follow. -/
def Obligations.DecodeOfEncode : Prop :=
  ∀ (i : Instr) (rest : List Byte), WellFormed i → decode (encode i ++ rest) = .ok (i, rest)

/-- R100, R110: every opcode byte decodes, from any three bytes; the bytes consumed are the encoding of the
instruction and the rest is left; and the opcode byte alone determines the mnemonic, the addressing mode and
the length. -/
def Obligations.EveryOpcodeByteDecodes : Prop :=
  (∀ (op b1 b2 : Byte) (rest : List Byte), ∃ i : Instr,
    decode (op :: b1 :: b2 :: rest) = .ok (i, (op :: b1 :: b2 :: rest).drop i.length) ∧
    encode i = (op :: b1 :: b2 :: rest).take i.length ∧ WellFormed i ∧ i.opcode = op) ∧
  ∀ i j : Instr, i.opcode = j.opcode →
    i.mnemonic = j.mnemonic ∧ modeOf i.operand = modeOf j.operand ∧ i.length = j.length

/-- R114's table of one example for each of the sixteen formats (the spec marks the table [from general
knowledge, not in source]; log 18): the bytes decode to the instruction written beside them. -/
def Obligations.SpecWordsDecode : Prop :=
  decode [0x18] = .ok (.clc, []) ∧ decode [0x0A] = .ok (.aslAcc, []) ∧
  decode [0xA9, 0x10] = .ok (.ldaImm 0x10, []) ∧ decode [0xA5, 0x20] = .ok (.ldaZp 0x20, []) ∧
  decode [0xB5, 0x20] = .ok (.ldaZpx 0x20, []) ∧ decode [0xB6, 0x20] = .ok (.ldxZpy 0x20, []) ∧
  decode [0xD0, 0x03] = .ok (.bne 3, []) ∧ decode [0xAD, 0x34, 0x12] = .ok (.ldaAbs 0x1234, []) ∧
  decode [0xBD, 0xFF, 0x12] = .ok (.ldaAbx 0x12FF, []) ∧
  decode [0xB9, 0x34, 0x12] = .ok (.ldaAby 0x1234, []) ∧
  decode [0x6C, 0x34, 0x12] = .ok (.jmpInd 0x1234, []) ∧
  decode [0xA1, 0x20] = .ok (.ldaIzx 0x20, []) ∧ decode [0xB1, 0x20] = .ok (.ldaIzy 0x20, []) ∧
  decode [0xB2, 0x20] = .ok (.ldaIzp 0x20, []) ∧
  decode [0x7C, 0x34, 0x12] = .ok (.jmpIax 0x1234, []) ∧
  decode [0x0F, 0x20, 0x0D] = .ok (.bbr0 0x20 13, [])

/-! ### The step -/

/-- R401 line 6, R402: at a quiet boundary, when the bytes at PC are the encoding of a well-formed
instruction, `step` is `exec` of it from the state with PC past it and the fetches noted, followed by what
ends an instruction (`finishInstruction`: tick and access breakpoints) and a boundary (`closeBoundary`); with
no breakpoint set and no single step asked for, that is only the tick, unless the instruction halted. -/
def Obligations.StepRunsDecodedInstruction : Prop :=
  ∀ (s : State) (i : Instr), s.Quiet → WellFormed i → AtPc i s →
    let f := fetched s i.length { s.bus with
      deviceWrites := []
      accesses := (encode i).zipIdx.map fun p => ⟨.read, s.pc + BitVec.ofNat 16 p.2, p.1⟩ }
    ∃ t, exec i f = .next t ∧ step s = .next (closeBoundary (finishInstruction t)) ∧
      (s.breakpoints = [] → s.singleStep = false → t.run = .running →
        step s = .next { t with tick := some t.cycles, firstBoundary := false })

/-- R400, R402, R110: at a quiet boundary, whatever stands at PC (the I/O page too), the step fetches bytes
with one bus read each in ascending order, they are the encoding of a well-formed instruction, and the step
runs it from the state those reads leave. -/
def Obligations.EveryStepDecodes : Prop :=
  ∀ s : State, s.Quiet → ∃ (i : Instr) (t : State),
    let q := readRun { s.bus with accesses := [], deviceWrites := [] } s.pc i.length
    q.1 = encode i ∧ WellFormed i ∧ exec i (fetched s i.length q.2) = .next t ∧
      step s = .next (closeBoundary (finishInstruction t))

/-- R402, R404, R436: after an instruction. If its rule halted, nothing is added. Else `tick` is called once
with its cycles; and if an access of the instruction hit a Read, Write or Access breakpoint, the core is
stopped with the first such access's address and the breakpoint's kind, PC where the instruction left it. -/
def Obligations.AfterAnInstruction : Prop :=
  ∀ t : State,
    (t.run = .stopped → finishInstruction t = t) ∧
    (t.run = .running →
      ((∀ x ∈ t.bus.accesses, ∀ b ∈ t.breakpoints, ¬ Hits b x) →
        finishInstruction t = { t with tick := some t.cycles }) ∧
      (∀ (pre post : List BusAccess) (x : BusAccess), t.bus.accesses = pre ++ x :: post →
        (∀ y ∈ pre, ∀ b ∈ t.breakpoints, ¬ Hits b y) → (∃ b ∈ t.breakpoints, Hits b x) →
        ∃ b ∈ t.breakpoints, Hits b x ∧
          finishInstruction t = { t with
            tick := some t.cycles
            run := .stopped
            stopReason := .breakpoint b.kind x.addr }))

/-- R401: a machine configured with an auxiliary bank is refused (R56, U18); else at a boundary of a Running
core the first of the six lines that applies is the step: reset, pause (skipped by a single step, R434), NMI,
IRQ if I = 0, PC breakpoint (skipped at the first boundary after run or step), one instruction. -/
def Obligations.BoundaryOrder : Prop :=
  (∀ s : State, s.bus.params.auxPresent = true → s.run = .running →
    step s = .refused .auxiliaryBank) ∧
  ∀ (s : State) (irq nmi : Bool) (rest : List Boundary), s.bus.params.auxPresent = false →
    s.run = .running → s.schedule = ⟨[], irq, nmi⟩ :: rest →
    let q := opened s rest nmi
    (s.resetRequest = true →
      step s = .next (closeBoundary (resetSequence { q with resetRequest := false }))) ∧
    (s.resetRequest = false →
      (s.pauseRequest = true → s.singleStep = false →
        step s = .next { q with
          run := .stopped
          stopReason := .paused
          pauseRequest := false
          firstBoundary := false }) ∧
      (s.pauseRequest = false ∨ s.singleStep = true →
        (q.nmiPending = true →
          step s = .next (closeBoundary (interruptEntry s.params.vecNmi
            { q with nmiPending := false }))) ∧
        (q.nmiPending = false →
          (irq = true → s.flagI = false →
            step s = .next (closeBoundary (interruptEntry s.params.vecIrq q))) ∧
          (irq = false ∨ s.flagI = true →
            ((∃ b ∈ s.breakpoints, b.kind = .pc ∧ b.address.toNat ≤ s.pc.toNat ∧
                s.pc.toNat ≤ (b.endAddress.getD b.address).toNat) → s.firstBoundary = false →
              step s = .next (closeBoundary { q with
                run := .stopped
                stopReason := .breakpoint .pc s.pc })) ∧
            ((∀ b ∈ s.breakpoints, b.kind = .pc → b.address.toNat ≤ s.pc.toNat →
                (b.endAddress.getD b.address).toNat < s.pc.toNat) ∨ s.firstBoundary = true →
              step s = Result.map closeBoundary (executeInstruction q))))))

/-- R412: no instruction traps. From every state every instruction completes; only $CB and $DB, where they are
configured as unimplemented, and BRK in debugger-break mode, stop the core, and those always do. -/
def Obligations.NoInstructionTraps : Prop :=
  ∀ (i : Instr) (s : State), ∃ t, exec i s = .next t ∧
    (let halts := ((i.opcode = 0xCB ∨ i.opcode = 0xDB) ∧ i.opcode ∈ s.params.unimplementedOpcodes) ∨
        (i.opcode = 0x00 ∧ s.brkHalt = true);
      (halts → t.run = .stopped) ∧
      (¬ halts → t.run = s.run ∧ t.stopReason = s.stopReason))

/-! ### Addressing modes -/

/-- R132 to R136, R138 to R140, R147: the operand of each mode without a pointer. Immediate and accumulator
operands make no access; zero-page sums wrap inside page zero; 16-bit sums wrap modulo 65536 and record
whether the unbounded sum left the base's page; the resolver makes no access after the operand bytes; and the
byte an instruction reads is one bus read at the effective address. -/
def Obligations.DirectModes : Prop :=
  ∀ (s : State) (v z : Byte) (a : Word),
    operandByte (.imm v) s = some (v, s) ∧ operandByte .acc s = some (s.a, s) ∧
    (∃ ea : Word, effectiveAddress (.zp z) s = some (ea, s) ∧ ea.toNat = z.toNat) ∧
    (∃ ea : Word, effectiveAddress (.zpx z) s = some (ea, s) ∧
      ea.toNat = (z.toNat + s.x.toNat) % 256) ∧
    (∃ ea : Word, effectiveAddress (.zpy z) s = some (ea, s) ∧
      ea.toNat = (z.toNat + s.y.toNat) % 256) ∧
    effectiveAddress (.abs a) s = some (a, s) ∧
    (∃ (ea : Word) (p : Bool), effectiveAddress (.abx a) s = some (ea, { s with penalty := p }) ∧
      ea.toNat = (a.toNat + s.x.toNat) % 65536 ∧
      (p = true ↔ (a.toNat + s.x.toNat) / 256 ≠ a.toNat / 256)) ∧
    (∃ (ea : Word) (p : Bool), effectiveAddress (.aby a) s = some (ea, { s with penalty := p }) ∧
      ea.toNat = (a.toNat + s.y.toNat) % 65536 ∧
      (p = true ↔ (a.toNat + s.y.toNat) / 256 ≠ a.toNat / 256)) ∧
    ∀ (o : Operand) (ea : Word) (s1 : State), effectiveAddress o s = some (ea, s1) →
      operandByte o s = some ((s1.bus.read ea).1, { s1 with bus := (s1.bus.read ea).2 })

/-- R142, R143, R144: the modes through a zero-page pointer. Both pointer bytes come from page zero, the
second from the next byte modulo 256; (z,X) indexes before the pointer, modulo 256; (z),Y indexes after it,
modulo 65536, and records a page crossing; the two pointer reads are the only accesses. -/
def Obligations.PointerModes : Prop :=
  ∀ (s : State) (z : Byte),
    let pointer := fun p : Nat => (s.bus.byteAt .ram (p % 256)).toNat +
      256 * (s.bus.byteAt .ram ((p + 1) % 256)).toNat
    let bus := fun p : Nat => { s.bus with accesses := s.bus.accesses ++
      [⟨.read, BitVec.ofNat 16 (p % 256), s.bus.byteAt .ram (p % 256)⟩,
        ⟨.read, BitVec.ofNat 16 ((p + 1) % 256), s.bus.byteAt .ram ((p + 1) % 256)⟩] }
    (∃ ea : Word, ea.toNat = pointer (z.toNat + s.x.toNat) ∧
      effectiveAddress (.izx z) s = some (ea, { s with bus := bus (z.toNat + s.x.toNat) })) ∧
    (∃ ea : Word, ea.toNat = pointer z.toNat ∧
      effectiveAddress (.izp z) s = some (ea, { s with bus := bus z.toNat })) ∧
    (∃ (ea : Word) (p : Bool), ea.toNat = (pointer z.toNat + s.y.toNat) % 65536 ∧
      (p = true ↔ (pointer z.toNat + s.y.toNat) / 256 ≠ pointer z.toNat / 256) ∧
      effectiveAddress (.izy z) s =
        some (ea, { s with bus := bus z.toNat, penalty := p }))

/-! ### The bus -/

/-- R60, R62, R63: `MemRead` decodes by address and the three language-card bits; the I/O page goes to `IORead`
(`IoDispatch`); outside it the read changes nothing and is noted. -/
def Obligations.ReadsDecodeByRegion : Prop :=
  ∀ (b : Bus) (a : Word),
    (a.toNat ≤ 0xBFFF → (b.read a).1 = b.byteAt .ram a.toNat) ∧
    (0xC000 ≤ a.toNat ∧ a.toNat ≤ 0xC0FF →
      (b.read a).1 = (b.ioRead a).1 ∧ (b.read a).2 = noted (b.ioRead a).2 .read a (b.read a).1) ∧
    (0xC100 ≤ a.toNat ∧ a.toNat ≤ 0xCFFF → (b.read a).1 = b.byteAt .rom a.toNat) ∧
    (0xD000 ≤ a.toNat → b.lcReadRam = false → (b.read a).1 = b.byteAt .rom a.toNat) ∧
    (0xD000 ≤ a.toNat ∧ a.toNat ≤ 0xDFFF → b.lcReadRam = true →
      (b.read a).1 = b.byteAt (if b.lcBank2 then .lc2 else .lc1) (a.toNat - 0xD000)) ∧
    (0xE000 ≤ a.toNat → b.lcReadRam = true →
      (b.read a).1 = b.byteAt .lch (a.toNat - 0xE000)) ∧
    (a.toNat ≤ 0xBFFF ∨ 0xC100 ≤ a.toNat → (b.read a).2 = noted b .read a (b.read a).1)

/-- R61, R62, R63: `MemWrite` decodes by address and the language-card bits; the I/O page goes to `IOWrite`;
a dropped write changes nothing but the note; a write that lands puts the byte in its one cell and leaves every
other cell of every store as it was. -/
def Obligations.WritesDecodeByRegion : Prop :=
  ∀ (b : Bus) (a : Word) (v : Byte),
    let lands := fun (st : Store) (i : Nat) =>
      ((b.store st).wf = true → (b.write a v).byteAt st i = v) ∧
      (∀ (st' : Store) (j : Nat), (st', j) ≠ (st, i) →
        (b.write a v).byteAt st' j = b.byteAt st' j) ∧
      SameCard b (b.write a v) ∧ (b.write a v).accesses = b.accesses ++ [⟨.write, a, v⟩]
    (a.toNat ≤ 0xBFFF → lands .ram a.toNat) ∧
    (0xC000 ≤ a.toNat ∧ a.toNat ≤ 0xC0FF → b.write a v = noted (b.ioWrite a v) .write a v) ∧
    (0xC100 ≤ a.toNat ∧ a.toNat ≤ 0xCFFF → b.write a v = noted b .write a v) ∧
    (0xD000 ≤ a.toNat → b.lcWriteRam = false → b.write a v = noted b .write a v) ∧
    (0xD000 ≤ a.toNat ∧ a.toNat ≤ 0xDFFF → b.lcWriteRam = true →
      lands (if b.lcBank2 then .lc2 else .lc1) (a.toNat - 0xD000)) ∧
    (0xE000 ≤ a.toNat → b.lcWriteRam = true → lands .lch (a.toNat - 0xE000))

/-- R66, R67, R69, with `LC_BASE` = $C080 (R6): an access of switch `k`. Bank 2 iff k[3] = 0; RAM is read iff
k[1:0] is 00 or 11; an even switch clears the counter and the write enable; a write to an odd one clears the
counter only; a read of an odd one enables writing if the counter was set, and sets it. -/
def Obligations.SwitchAccess : Prop :=
  ∀ (b : Bus) (a : Word) (k : Nat) (v : Byte), b.params.lcBase = 0xC080 → k ≤ 15 →
    a.toNat = 0xC080 + k →
    let r := (b.read a).2
    let w := b.write a v
    (r.lcBank2 = true ↔ k < 8) ∧ (w.lcBank2 = true ↔ k < 8) ∧
    (r.lcReadRam = true ↔ k % 4 = 0 ∨ k % 4 = 3) ∧ (w.lcReadRam = true ↔ k % 4 = 0 ∨ k % 4 = 3) ∧
    (k % 2 = 0 → r.lcPreWrite = false ∧ r.lcWriteRam = false ∧
      w.lcPreWrite = false ∧ w.lcWriteRam = false) ∧
    (k % 2 = 1 → w.lcPreWrite = false ∧ w.lcWriteRam = b.lcWriteRam ∧
      r.lcPreWrite = true ∧ (r.lcWriteRam = true ↔ b.lcWriteRam = true ∨ b.lcPreWrite = true))

/-- R68, R34, R70: the double-read rule over runs of accesses. "Consecutive" counts switch accesses only: what
lies between two qualifying reads must touch no switch, and may be anything else. Two enable writing, whatever
their addresses, and bank and read source follow the later one; one after a disabling access does not; a
disabling access ends it; a write to an odd switch makes the count start again; the counter is 1 exactly when
the last switch access was a qualifying read. -/
def Obligations.DoubleReadEnables : Prop :=
  ∀ (b : Bus) (x y : Touch) (mid late : List Touch), b.params.lcBase = 0xC080 →
    (∀ z ∈ mid, ¬ OnSwitch z) → (∀ z ∈ late, ¬ OnSwitch z) →
    (Qualifying x → Qualifying y →
      let c := touchAll (x :: mid ++ y :: late) b
      c.lcWriteRam = true ∧ (c.lcBank2 = true ↔ y.2.1.toNat % 16 < 8) ∧
        (c.lcReadRam = true ↔ y.2.1.toNat % 4 = 3)) ∧
    (Disabling x → Qualifying y → (touchAll (x :: mid ++ y :: late) b).lcWriteRam = false) ∧
    (Disabling x → (touchAll (x :: mid) b).lcWriteRam = false) ∧
    (OnSwitch x → ((touchAll (x :: mid) b).lcPreWrite = true ↔ Qualifying x)) ∧
    (OnSwitch x → ¬ Qualifying x → ¬ Disabling x →
      (touchAll (x :: mid) b).lcWriteRam = b.lcWriteRam ∧
      (Qualifying y → (touchAll (x :: mid ++ y :: late) b).lcWriteRam = b.lcWriteRam))

/-- R71, R72, R73, R70, with `LC_BASE` = $C080 (R6): the I/O page. A switch reads the configured byte (0, R6) and
acts on the card, whatever byte is written; another address with a read handler answers the device's byte, which
is a free value (R75, log 7), and one without reads the configured default (0, R6); a write to an address with a
write handler calls it with the address and the byte (log 7), a write to one without is dropped; neither changes
anything else the core owns. -/
def Obligations.IoDispatch : Prop :=
  ∀ (b : Bus) (a : Word) (v : Byte), b.params.lcBase = 0xC080 →
    0xC000 ≤ a.toNat ∧ a.toNat ≤ 0xC0FF →
    (0xC080 ≤ a.toNat ∧ a.toNat ≤ 0xC08F →
      b.ioRead a = (b.params.lcSwitchReadValue, b.lcAccess a .read) ∧
      (∀ w, b.ioWrite a w = b.lcAccess a .write) ∧
      SameStores b (b.read a).2 ∧ SameStores b (b.write a v)) ∧
    (a.toNat < 0xC080 ∨ 0xC08F < a.toNat →
      (BitVec.ofNat 8 a.toNat ∈ b.readHandlers →
        b.ioRead a =
          (Config.deviceByte b.deviceReads a, { b with deviceReads := b.deviceReads + 1 })) ∧
      (BitVec.ofNat 8 a.toNat ∉ b.readHandlers → b.ioRead a = (b.params.ioDefault, b)) ∧
      (BitVec.ofNat 8 a.toNat ∈ b.writeHandlers →
        b.write a v = noted { b with deviceWrites := b.deviceWrites ++ [⟨a, v⟩] } .write a v) ∧
      (BitVec.ofNat 8 a.toNat ∉ b.writeHandlers → b.write a v = noted b .write a v))

/-- R65, R39, R75, R14 (the frame of one access): off the switches no access changes the language card; a read
changes no byte of any store and calls no write handler; outside the I/O page no handler is called at all; a
write changes no ROM byte; none changes the handler table or the configuration; and every access is noted
once. -/
def Obligations.AccessFrame : Prop :=
  ∀ (b : Bus) (x : Touch),
    (b.params.lcBase = 0xC080 → ¬ OnSwitch x → SameCard b (touch b x)) ∧
    (x.1 = .read → SameStores b (touch b x) ∧ (touch b x).deviceWrites = b.deviceWrites) ∧
    (x.2.1.toNat < 0xC000 ∨ 0xC0FF < x.2.1.toNat →
      SameCard b (touch b x) ∧ (touch b x).deviceWrites = b.deviceWrites ∧
      (touch b x).deviceReads = b.deviceReads) ∧
    (∀ i, (touch b x).byteAt .rom i = b.byteAt .rom i) ∧
    (touch b x).readHandlers = b.readHandlers ∧ (touch b x).writeHandlers = b.writeHandlers ∧
    (touch b x).params = b.params ∧
    ∃ v, (touch b x).accesses = b.accesses ++ [⟨x.1, x.2.1, v⟩]

/-! ### Reset and the host -/

/-- R43, R44, R39, R42, R6: what the spec gives the state after power-on and reset. -/
def Obligations.ResetValuesOfTheSpec : Prop :=
  State.reset.params = .spec ∧ State.reset.bus.params = .spec ∧
  State.reset.flagI = true ∧ State.reset.flagD = false ∧ State.reset.flagB = false ∧
  State.reset.bus.lcBank2 = true ∧ State.reset.bus.lcReadRam = false ∧
  State.reset.bus.lcPreWrite = false ∧ State.reset.nmiPending = false ∧
  State.reset.run = .stopped ∧ (∀ i, State.reset.bus.byteAt .rom i = 0) ∧
  State.reset.pc.toNat = highWord State.reset.bus 0xFFFC

/-- THE MODEL'S CHOICE, not the spec's (logs 2 to 5 and 28; the spec gives none of these a value, R37, R38, R40,
R41, R44): the values State.reset gives the registers, the flags and the memories that have none, the stop
reason, the handler table and the pending requests. -/
def Obligations.ResetValuesChosen : Prop :=
  State.reset.a = 0 ∧ State.reset.x = 0 ∧ State.reset.y = 0 ∧ State.reset.sp = 0 ∧
  State.reset.flagN = false ∧ State.reset.flagV = false ∧ State.reset.flagZ = false ∧
  State.reset.flagC = false ∧ State.reset.bus.lcWriteRam = false ∧
  State.reset.stopReason = .none ∧ State.reset.bus.readHandlers = [] ∧
  State.reset.bus.writeHandlers = [] ∧ State.reset.resetRequest = false ∧
  State.reset.pauseRequest = false ∧ State.reset.singleStep = false ∧
  State.reset.firstBoundary = false ∧
  ∀ (st : Store) (i : Nat), State.reset.bus.byteAt st i = 0

/-- R451, R452, R432: a reset taken by a Running core at a boundary. The bus state first, then the flags, and
PC from ROM at $FFFC and $FFFD; nothing is pushed, no byte of any store changes, no cycles are counted and no
tick is called; SP and lcWriteRam become the configured values, or free values where the configuration leaves
them unspecified (logs 3 and 4); A, X, Y, N, V, Z, C, `run`, `stopReason`, the breakpoints, `BRK_HALT` and the
handler table stay. -/
def Obligations.ResetSequenceAtBoundary : Prop :=
  ∀ (s : State) (irq nmi : Bool) (rest : List Boundary),
    s.bus.params.auxPresent = false → s.params.vecReset = 0xFFFC →
    s.run = .running → s.singleStep = false → s.schedule = ⟨[.reset], irq, nmi⟩ :: rest →
    ∃ t, step s = .next t ∧
      t.bus.lcBank2 = true ∧ t.bus.lcReadRam = false ∧ t.bus.lcPreWrite = false ∧
      t.bus.lcWriteRam = s.params.resetLcWriteRam.getD (Config.resetLcWriteRam s.draws) ∧
      t.sp = s.params.resetSp.getD (Config.resetSp s.draws) ∧
      t.draws = s.draws + 1 ∧ t.nmiPending = false ∧ t.flagI = true ∧ t.flagD = false ∧
      t.flagB = false ∧ t.penalty = false ∧
      t.pc.toNat = (s.bus.byteAt .rom 0xFFFC).toNat + 256 * (s.bus.byteAt .rom 0xFFFD).toNat ∧
      t.bus.accesses = [⟨.read, 0xFFFC, s.bus.byteAt .rom 0xFFFC⟩,
        ⟨.read, 0xFFFD, s.bus.byteAt .rom 0xFFFD⟩] ∧
      SameStores s.bus t.bus ∧ t.bus.readHandlers = s.bus.readHandlers ∧
      t.bus.writeHandlers = s.bus.writeHandlers ∧ t.bus.deviceReads = s.bus.deviceReads ∧
      t.bus.deviceWrites = [] ∧ t.bus.params = s.bus.params ∧
      t.cycles = 0 ∧ t.tick = none ∧ t.resetRequest = false ∧
      Unchanged [.bus, .nmiPending, .flagI, .flagD, .flagB, .sp, .draws, .penalty, .pc, .cycles,
        .tick, .resetRequest, .firstBoundary, .schedule] s t

/-- R37, R430, R431, R432, R434: the host's commands at a boundary. A Stopped core with no input left takes no
step (the model's one fault, log 10). `pause` stops a Running core between two steps and changes nothing else.
`reset` on a Stopped core is performed at once and leaves it Stopped, at the reset target. `step` from Stopped
is R401 applied once with lines 2 and 5 skipped (reset, then NMI, then IRQ if I = 0, else one instruction),
and it ends Stopped, with the stop reason of a halting instruction and Paused otherwise. `run` makes a Stopped
core take its step past a PC breakpoint. -/
def Obligations.HostCommandsAtBoundary : Prop :=
  (∀ s : State, s.run = .stopped → s.schedule = [] →
    step s = .fault (.coreStopped s.stopReason)) ∧
  (∀ (s : State) (irq nmi : Bool) (rest : List Boundary), s.bus.params.auxPresent = false →
    s.run = .running → s.resetRequest = false → s.singleStep = false →
    s.schedule = ⟨[.pause], irq, nmi⟩ :: rest →
    step s = .next { opened s rest nmi with
      run := .stopped
      stopReason := .paused
      pauseRequest := false
      firstBoundary := false }) ∧
  (∀ (s : State) (irq nmi : Bool) (rest : List Boundary), s.bus.params.auxPresent = false →
    s.run = .stopped → s.schedule = ⟨[.reset], irq, nmi⟩ :: rest →
    let t := { resetSequence (opened s rest false) with nmiPending := nmi }
    step s = .next t ∧ t.run = .stopped ∧ t.stopReason = s.stopReason ∧
      (s.params.vecReset = 0xFFFC → t.pc.toNat =
        (s.bus.byteAt .rom 0xFFFC).toNat + 256 * (s.bus.byteAt .rom 0xFFFD).toNat) ∧
      t.flagI = true ∧ t.flagD = false) ∧
  (∀ (s : State) (irq nmi : Bool) (rest : List Boundary), s.bus.params.auxPresent = false →
    s.run = .stopped → s.schedule = ⟨[.step], irq, nmi⟩ :: rest →
    let q := { opened s rest nmi with run := .running, firstBoundary := true, singleStep := true }
    let endsIn := fun u : State => ∃ t, step s = .next t ∧ t = closeBoundary u ∧
      t.run = .stopped ∧ (u.run = .running → t.stopReason = .paused) ∧
      (u.run = .stopped → t.stopReason = u.stopReason) ∧
      Unchanged [.run, .stopReason, .singleStep, .firstBoundary, .pauseRequest] u t
    (s.resetRequest = true → endsIn (resetSequence { q with resetRequest := false })) ∧
    (s.resetRequest = false →
      (q.nmiPending = true → endsIn (interruptEntry s.params.vecNmi { q with nmiPending := false })) ∧
      (q.nmiPending = false →
        (irq = true → s.flagI = false → endsIn (interruptEntry s.params.vecIrq q)) ∧
        (irq = false ∨ s.flagI = true →
          step s = Result.map closeBoundary (executeInstruction q) ∧
          ∃ u, executeInstruction q = .next u ∧ endsIn u)))) ∧
  ∀ (s : State) (rest : List Boundary), s.bus.params.auxPresent = false → s.run = .stopped →
    s.resetRequest = false → s.pauseRequest = false → s.nmiPending = false →
    s.schedule = ⟨[.run], false, false⟩ :: rest →
    step s = Result.map closeBoundary (executeInstruction
      { opened s rest false with run := .running, firstBoundary := true })

/-- R433, R81, R436, R411, R80, R14: the host's other moves, which edit between steps. A register, PC or flag
write and BRK_HALT write that one thing and nothing else; a handler's registration and removal change that one
entry of that half of the table, and the card's sixteen entries ($C080 on, R6) cannot be registered; adding and
removing a breakpoint change that one entry of the set, and `clear` empties it. Which entries of the set are the
same is the model's choice (log 27): those with equal kind, address and optional endAddress. An edit before a
boundary of a Stopped core is all that happens there, and before one of a Running core it is as if made earlier.
No host move changes the configuration of R6. -/
def Obligations.HostEditsBetweenSteps : Prop :=
  (∀ (s : State) (r : Reg8) (v : Byte), readReg8 r (hostMove (.writeReg r v) s) = v ∧
    Unchanged [regField r] s (hostMove (.writeReg r v) s)) ∧
  (∀ (s : State) (v : Word), (hostMove (.writePc v) s).pc = v ∧
    Unchanged [.pc] s (hostMove (.writePc v) s)) ∧
  (∀ (s : State) (f : Flag) (v : Bool), readFlag f (hostMove (.writeFlag f v) s) = v ∧
    Unchanged [flagField f] s (hostMove (.writeFlag f v) s)) ∧
  (∀ (s : State) (v : Bool), (hostMove (.setBrkHalt v) s).brkHalt = v ∧
    Unchanged [.brkHalt] s (hostMove (.setBrkHalt v) s)) ∧
  (∀ (s : State) (e e' : Byte), s.bus.params.lcBase = 0xC080 →
    (let l := (hostMove (.registerRead e) s).bus.readHandlers;
      hostMove (.registerRead e) s = { s with bus := { s.bus with readHandlers := l } } ∧
      (e' ∈ l ↔ e' ∈ s.bus.readHandlers ∨ (e' = e ∧ (e.toNat < 0x80 ∨ 0x8F < e.toNat)))) ∧
    (let l := (hostMove (.registerWrite e) s).bus.writeHandlers;
      hostMove (.registerWrite e) s = { s with bus := { s.bus with writeHandlers := l } } ∧
      (e' ∈ l ↔ e' ∈ s.bus.writeHandlers ∨ (e' = e ∧ (e.toNat < 0x80 ∨ 0x8F < e.toNat))))) ∧
  (∀ (s : State) (e e' : Byte),
    (let l := (hostMove (.removeRead e) s).bus.readHandlers;
      hostMove (.removeRead e) s = { s with bus := { s.bus with readHandlers := l } } ∧
      (e' ∈ l ↔ e' ∈ s.bus.readHandlers ∧ e' ≠ e)) ∧
    (let l := (hostMove (.removeWrite e) s).bus.writeHandlers;
      hostMove (.removeWrite e) s = { s with bus := { s.bus with writeHandlers := l } } ∧
      (e' ∈ l ↔ e' ∈ s.bus.writeHandlers ∧ e' ≠ e))) ∧
  (∀ (s : State) (b b' : Breakpoint),
    (let l := (hostMove (.addBreakpoint b) s).breakpoints;
      hostMove (.addBreakpoint b) s = { s with breakpoints := l } ∧
      (b' ∈ l ↔ b' ∈ s.breakpoints ∨ b' = b)) ∧
    (let l := (hostMove (.removeBreakpoint b) s).breakpoints;
      hostMove (.removeBreakpoint b) s = { s with breakpoints := l } ∧
      (b' ∈ l ↔ b' ∈ s.breakpoints ∧ b' ≠ b)) ∧
    hostMove .clearBreakpoints s = { s with breakpoints := [] }) ∧
  (∀ (s : State) (c : HostCommand) (irq nmi : Bool) (rest : List Boundary),
    s.bus.params.auxPresent = false → isEdit c = true →
    (s.run = .stopped → s.schedule = ⟨[c], irq, nmi⟩ :: rest →
      step s = .next (hostMove c (opened s rest nmi))) ∧
    (s.run = .running → s.schedule = ⟨[c], irq, nmi⟩ :: rest →
      step s = step { hostMove c s with schedule := ⟨[], irq, nmi⟩ :: rest })) ∧
  ∀ (s : State) (c : HostCommand), (hostMove c s).params = s.params ∧
    (hostMove c s).bus.params = s.bus.params

/-- R80: `load` writes the bytes into the store the address (and the bank) names, whatever `lcWriteRam` says
and ROM too, and nothing else: no other cell, no switch, no handler. For bytes that R80 gives no store the
statement says what is the model's choice (log 19), not the spec's: a byte at $C000-$C0FF, or outside the named
card bank, is dropped and the next one goes on, and the address after $FFFF is $0000. -/
def Obligations.LoadInstallsImages : Prop :=
  ∀ (b : Bus) (bank : Option Store) (a : Word) (data : List Byte),
    bank ≠ some .ram → bank ≠ some .rom → data.length ≤ 65536 →
    let c := loadBytes bank a data b
    (∀ (k : Nat) (v : Byte) (st : Store) (i : Nat), data[k]? = some v →
      LoadCell bank (a + BitVec.ofNat 16 k) st i → (b.store st).wf = true → c.byteAt st i = v) ∧
    (∀ (st : Store) (i : Nat),
      (∀ k, k < data.length → ¬ LoadCell bank (a + BitVec.ofNat 16 k) st i) →
      c.byteAt st i = b.byteAt st i) ∧
    SameCard b c ∧ c.readHandlers = b.readHandlers ∧ c.writeHandlers = b.writeHandlers ∧
    c.deviceReads = b.deviceReads ∧ c.accesses = b.accesses ∧ c.deviceWrites = b.deviceWrites ∧
    c.params = b.params

/-! ### The status byte -/

/-- R25: `Pack(b)` is N V 1 b D I Z C from bit 7 to bit 0; `Unpack` takes the six flags from their bits,
discards bits 5 and 4, and leaves B and all else alone; unpacking what was packed changes nothing. -/
def Obligations.StatusByte : Prop :=
  ∀ (s : State) (b : Bool) (v : Byte),
    (pack b s).toNat = 128 * s.flagN.toNat + 64 * s.flagV.toNat + 32 + 16 * b.toNat +
      8 * s.flagD.toNat + 4 * s.flagI.toNat + 2 * s.flagZ.toNat + s.flagC.toNat ∧
    (let t := unpack v s;
      t.flagN.toNat = v.toNat / 128 ∧ t.flagV.toNat = v.toNat / 64 % 2 ∧
      t.flagD.toNat = v.toNat / 8 % 2 ∧ t.flagI.toNat = v.toNat / 4 % 2 ∧
      t.flagZ.toNat = v.toNat / 2 % 2 ∧ t.flagC.toNat = v.toNat % 2 ∧
      Unchanged [.flagN, .flagV, .flagD, .flagI, .flagZ, .flagC] s t) ∧
    unpack (pack b s) s = s

/-! ### Loads and stores -/

/-- R160, R161, R162: LDA, LDX, LDY in all their modes. -/
def Obligations.LoadsCopyAndSetNZ : Prop :=
  ∀ (v z : Byte) (a : Word),
    (∀ r ∈ ldaRows v z a, r.Encoded ∧ r.Reads none' [.a, .flagN, .flagZ]
      fun _ m t => t.a = m ∧ NZ m t) ∧
    (∀ r ∈ ldxRows v z a, r.Encoded ∧ r.Reads none' [.x, .flagN, .flagZ]
      fun _ m t => t.x = m ∧ NZ m t) ∧
    (∀ r ∈ ldyRows v z a, r.Encoded ∧ r.Reads none' [.y, .flagN, .flagZ]
      fun _ m t => t.y = m ∧ NZ m t)

/-- R163, R164, R165, R166: STA, STX, STY, STZ in all their modes: one write, no read of the address, no
flag. -/
def Obligations.StoresWriteOneByte : Prop :=
  ∀ (z : Byte) (a : Word),
    (∀ r ∈ staRows z a, r.Encoded ∧ r.Stores fun s => s.a) ∧
    (∀ r ∈ stxRows z a, r.Encoded ∧ r.Stores fun s => s.x) ∧
    (∀ r ∈ styRows z a, r.Encoded ∧ r.Stores fun s => s.y) ∧
    (∀ r ∈ stzRows z a, r.Encoded ∧ r.Stores fun _ => 0)

/-! ### ADC and SBC -/

/-- R170, R171: ADC in all its modes, by `AddBin` when D = 0 and by `DEC_ADC` when D = 1, where V is a free
value (R176, log 6) and one cycle more is taken. -/
def Obligations.AdcAddsByMode : Prop :=
  ∀ (v z : Byte) (a : Word), ∀ r ∈ adcRows v z a, r.Encoded ∧
    r.Reads (fun s => s.flagD.toNat) [.a, .flagN, .flagV, .flagZ, .flagC, .draws] fun s m t =>
      NZ t.a t ∧
      (s.flagD = false → t.a = (addBin s.a m s.flagC).r ∧ t.flagC = (addBin s.a m s.flagC).c ∧
        t.flagV = (addBin s.a m s.flagC).v ∧ t.draws = s.draws) ∧
      (s.flagD = true → (t.a, t.flagC) = decAdc s.params.decAdc s.a m s.flagC ∧
        t.flagV = Config.decV s.draws ∧ t.draws = s.draws + 1)

/-- R173, R171: SBC in all its modes, by `SubBin` when D = 0 and by `DEC_SBC` when D = 1 (V and the cycle as
for ADC). -/
def Obligations.SbcSubtractsByMode : Prop :=
  ∀ (v z : Byte) (a : Word), ∀ r ∈ sbcRows v z a, r.Encoded ∧
    r.Reads (fun s => s.flagD.toNat) [.a, .flagN, .flagV, .flagZ, .flagC, .draws] fun s m t =>
      NZ t.a t ∧
      (s.flagD = false → t.a = (subBin s.a m s.flagC).r ∧ t.flagC = (subBin s.a m s.flagC).c ∧
        t.flagV = (subBin s.a m s.flagC).v ∧ t.draws = s.draws) ∧
      (s.flagD = true → (t.a, t.flagC) = decSbc s.params.decSbc s.a m s.flagC ∧
        t.flagV = Config.decV s.draws ∧ t.draws = s.draws + 1)

/-- R172: `AddBin`: the sum modulo 256, C iff it exceeds 255, V iff the operands have one sign and the result
the other, equivalently iff the signed sum lies outside -128..127. -/
def Obligations.BinaryAddition : Prop :=
  ∀ (a m : Byte) (c : Bool), let s := addBin a m c
    s.r.toNat = (a.toNat + m.toNat + c.toNat) % 256 ∧
    (s.c = true ↔ 255 < a.toNat + m.toNat + c.toNat) ∧
    (s.v = true ↔ (a.toNat < 128 ↔ m.toNat < 128) ∧ ¬ (s.r.toNat < 128 ↔ a.toNat < 128)) ∧
    (s.v = true ↔ sext8 a + sext8 m + c.toNat < -128 ∨ 127 < sext8 a + sext8 m + c.toNat)

/-- R175: `SubBin`: the difference modulo 256, C iff there is no borrow, V iff the operands have different
signs and the result's differs from a's, equivalently iff the signed difference lies outside -128..127. -/
def Obligations.BinarySubtraction : Prop :=
  ∀ (a m : Byte) (c : Bool), let s := subBin a m c
    (s.r.toNat : Int) = ((a.toNat : Int) - m.toNat - (1 - c.toNat)) % 256 ∧
    (s.c = true ↔ (0 : Int) ≤ (a.toNat : Int) - m.toNat - (1 - c.toNat)) ∧
    (s.v = true ↔ ¬ (a.toNat < 128 ↔ m.toNat < 128) ∧ ¬ (s.r.toNat < 128 ↔ a.toNat < 128)) ∧
    (s.v = true ↔
      sext8 a - sext8 m - (1 - c.toNat) < -128 ∨ 127 < sext8 a - sext8 m - (1 - c.toNat))

/-- R174: `DEC_ADC`, default body: the nibble correction, step by step, for all operands (at invalid BCD the
spec calls the value its own reading, R178, log 8), and for valid BCD decimal addition. A configured `DEC_ADC`
(R6) is the first case listed for the operands and the default body where none is (log 26). -/
def Obligations.DecimalAddition : Prop :=
  (∀ (a m : Byte) (c : Bool),
    (∃ lo t : Nat,
      (let l := a.toNat % 16 + m.toNat % 16 + c.toNat;
        (9 < l → lo = l + 6) ∧ (l ≤ 9 → lo = l)) ∧
      (let u := (a.toNat - a.toNat % 16) + (m.toNat - m.toNat % 16) + lo;
        (0xA0 ≤ u → t = u + 0x60) ∧ (u < 0xA0 → t = u)) ∧
      (decAdc [] a m c).1.toNat = t % 256 ∧ ((decAdc [] a m c).2 = true ↔ 0xFF < t)) ∧
    (validBcd a → validBcd m →
      (decAdc [] a m c).1.toNat = bcd ((dec a + dec m + c.toNat) % 100) ∧
      ((decAdc [] a m c).2 = true ↔ 100 ≤ dec a + dec m + c.toNat))) ∧
  ∀ (e : Config.DecCase) (cases : List Config.DecCase) (a m : Byte) (c : Bool),
    (e.a = a ∧ e.m = m ∧ e.c = c → decAdc (e :: cases) a m c = (e.r, e.cOut)) ∧
    (¬ (e.a = a ∧ e.m = m ∧ e.c = c) → decAdc (e :: cases) a m c = decAdc cases a m c)

/-- `DEC_SBC` for valid BCD is decimal subtraction, and the source's one example, under every configuration
the spec allows (`coreParamsOk`; the default body is one). Property P3 and the default body are the spec's own
choice, as it says in the text of R177 ("(P3), this spec's choice", D13; log 8); P1 is the source's. A
configured `DEC_SBC` is the first case listed for the operands and the default body where none is (log 26). -/
def Obligations.DecimalSubtraction : Prop :=
  (∀ p : Config.CoreParams, coreParamsOk p →
    decSbc p.decSbc 0x05 0x06 true = (0x99, false) ∧
    ∀ (a m : Byte) (c : Bool), validBcd a → validBcd m →
      ((decSbc p.decSbc a m c).1.toNat : Int) =
        bcd ((((dec a : Int) - dec m - (1 - c.toNat)) % 100).toNat) ∧
      ((decSbc p.decSbc a m c).2 = true ↔ (0 : Int) ≤ (dec a : Int) - dec m - (1 - c.toNat))) ∧
  ∀ (e : Config.DecCase) (cases : List Config.DecCase) (a m : Byte) (c : Bool),
    (e.a = a ∧ e.m = m ∧ e.c = c → decSbc (e :: cases) a m c = (e.r, e.cOut)) ∧
    (¬ (e.a = a ∧ e.m = m ∧ e.c = c) → decSbc (e :: cases) a m c = decSbc cases a m c)

/-- The identity the spec derives from R172 and R175 in the text after R175 (90_conflicts.md C2): in binary mode
ADC then SBC of the same byte leaves (a + c_in + c_out - 1) mod 256, so A comes back exactly when
c_in + c_out = 1. -/
def Obligations.AdcThenSbc : Prop :=
  ∀ (s : State) (m : Byte), s.flagD = false → ∃ t u,
    exec (.adcImm m) s = .next t ∧ exec (.sbcImm m) t = .next u ∧
    u.a.toNat = (s.a.toNat + s.flagC.toNat + t.flagC.toNat + 255) % 256 ∧
    (u.a = s.a ↔ s.flagC ≠ t.flagC)

/-! ### Compares, logic, bit tests -/

/-- R180, R181, R182, R183: CMP, CPX, CPY in all their modes: C iff register >= operand unsigned, N and Z from
the difference modulo 256, and no register written. -/
def Obligations.ComparesSetFlags : Prop :=
  let compared := fun (reg m : Byte) (t : State) =>
    (t.flagC = true ↔ m.toNat ≤ reg.toNat) ∧
    NZ (BitVec.ofNat 8 (reg.toNat + 256 - m.toNat)) t ∧ (t.flagZ = true ↔ reg = m)
  ∀ (v z : Byte) (a : Word),
    (∀ r ∈ cmpRows v z a, r.Encoded ∧ r.Reads none' [.flagN, .flagZ, .flagC]
      fun s m t => compared s.a m t) ∧
    (∀ r ∈ cpxRows v z a, r.Encoded ∧ r.Reads none' [.flagN, .flagZ, .flagC]
      fun s m t => compared s.x m t) ∧
    (∀ r ∈ cpyRows v z a, r.Encoded ∧ r.Reads none' [.flagN, .flagZ, .flagC]
      fun s m t => compared s.y m t)

/-- R184, R185, R186: AND, ORA, EOR in all their modes, bit by bit. -/
def Obligations.LogicIsBitwise : Prop :=
  ∀ (v z : Byte) (a : Word),
    (∀ r ∈ andRows v z a, r.Encoded ∧ r.Reads none' [.a, .flagN, .flagZ] fun s m t =>
      (∀ k, k < 8 → t.a.getLsbD k = (s.a.getLsbD k && m.getLsbD k)) ∧ NZ t.a t) ∧
    (∀ r ∈ oraRows v z a, r.Encoded ∧ r.Reads none' [.a, .flagN, .flagZ] fun s m t =>
      (∀ k, k < 8 → t.a.getLsbD k = (s.a.getLsbD k || m.getLsbD k)) ∧ NZ t.a t) ∧
    (∀ r ∈ eorRows v z a, r.Encoded ∧ r.Reads none' [.a, .flagN, .flagZ] fun s m t =>
      (∀ k, k < 8 → t.a.getLsbD k = (s.a.getLsbD k != m.getLsbD k)) ∧ NZ t.a t)

/-- R187: BIT. The memory forms set Z from A & m, N and V from bits 7 and 6 of the memory byte; the immediate
form sets Z and nothing else. -/
def Obligations.BitTests : Prop :=
  ∀ (v z : Byte) (a : Word),
    (∀ r ∈ bitRows z a, r.Encoded ∧ r.Reads none' [.flagZ, .flagN, .flagV] fun s m t =>
      (t.flagZ = true ↔ ∀ k, k < 8 → ¬ (s.a.getLsbD k = true ∧ m.getLsbD k = true)) ∧
      t.flagN.toNat = m.toNat / 128 ∧ t.flagV.toNat = m.toNat / 64 % 2) ∧
    (∀ r ∈ bitImmRows v, r.Encoded ∧ r.Reads none' [.flagZ] fun s m t =>
      t.flagZ = true ↔ ∀ k, k < 8 → ¬ (s.a.getLsbD k = true ∧ m.getLsbD k = true))

/-- R188, R189, R210: TSB and TRB: Z from A & m before the write; the byte written has A's bits set, or
cleared. -/
def Obligations.TestAndSetOrResetBits : Prop :=
  let test := fun (s : State) (m _w : Byte) (t : State) =>
    t.flagZ = true ↔ ∀ k, k < 8 → ¬ (s.a.getLsbD k = true ∧ m.getLsbD k = true)
  ∀ (z : Byte) (a : Word),
    (∀ r ∈ tsbRows z a, r.Encoded ∧ r.ModifiesMemory [.flagZ]
      (fun s m w => ∀ k, k < 8 → w.getLsbD k = (m.getLsbD k || s.a.getLsbD k)) test) ∧
    (∀ r ∈ trbRows z a, r.Encoded ∧ r.ModifiesMemory [.flagZ]
      (fun s m w => ∀ k, k < 8 → w.getLsbD k = (m.getLsbD k && !s.a.getLsbD k)) test)

/-! ### Shifts, rotates, increments, decrements -/

/-- R200, R201, R202, R203, R210: ASL, LSR, ROL, ROR in all their modes: one bit, C takes the bit that leaves,
and the rotates bring the old C in at the other end. -/
def Obligations.ShiftsAndRotates : Prop :=
  let fields : List Field := [.flagN, .flagZ, .flagC]
  let left := fun (_ : State) (m w : Byte) (t : State) => (t.flagC = true ↔ 128 ≤ m.toNat) ∧ NZ w t
  let right := fun (_ : State) (m w : Byte) (t : State) => (t.flagC = true ↔ m.toNat % 2 = 1) ∧ NZ w t
  ∀ (z : Byte) (a : Word),
    (∀ r ∈ aslRows z a, r.Encoded ∧ r.Modifies fields
      (fun _ m w => w.toNat = 2 * m.toNat % 256) left) ∧
    (∀ r ∈ lsrRows z a, r.Encoded ∧ r.Modifies fields
      (fun _ m w => w.toNat = m.toNat / 2) right) ∧
    (∀ r ∈ rolRows z a, r.Encoded ∧ r.Modifies fields
      (fun s m w => w.toNat = (2 * m.toNat + s.flagC.toNat) % 256) left) ∧
    (∀ r ∈ rorRows z a, r.Encoded ∧ r.Modifies fields
      (fun s m w => w.toNat = m.toNat / 2 + 128 * s.flagC.toNat) right)

/-- R204, R205, R210: INC and DEC in all their modes, modulo 256, N and Z only, whatever D. -/
def Obligations.IncrementsAndDecrements : Prop :=
  ∀ (z : Byte) (a : Word),
    (∀ r ∈ incRows z a, r.Encoded ∧ r.Modifies [.flagN, .flagZ]
      (fun _ m w => w.toNat = (m.toNat + 1) % 256) fun _ _ w t => NZ w t) ∧
    (∀ r ∈ decRows z a, r.Encoded ∧ r.Modifies [.flagN, .flagZ]
      (fun _ m w => w.toNat = (m.toNat + 255) % 256) fun _ _ w t => NZ w t)

/-- R206, R207, R208, R209: INX, INY, DEX, DEY, modulo 256, N and Z only. -/
def Obligations.IndexIncrements : Prop :=
  (∀ p ∈ stepXRows, p.1.Encoded ∧ p.1.Simple [.x, .flagN, .flagZ] fun s t =>
    t.x.toNat = (s.x.toNat + p.2) % 256 ∧ NZ t.x t) ∧
  (∀ p ∈ stepYRows, p.1.Encoded ∧ p.1.Simple [.y, .flagN, .flagZ] fun s t =>
    t.y.toNat = (s.y.toNat + p.2) % 256 ∧ NZ t.y t)

/-! ### Branches and jumps -/

/-- R220 to R228, R137: the eight conditional branches. Taken or not, nothing but PC and the cycles changes; the
target is the address after the instruction plus the displacement, modulo 65536; taken costs one cycle more
and one more again if the target lies in another page than the address after the branch. -/
def Obligations.ConditionalBranches : Prop :=
  ∀ d : Int, displacementOk d = true → ∀ p ∈ branchRows d, p.1.Encoded ∧
    ∀ s : State, ∃ t, exec p.1.i s = .next t ∧ Unchanged [.pc, .cycles] s t ∧
      (p.2 s = false → t.pc = s.pc ∧ t.cycles = p.1.cycles) ∧
      (p.2 s = true → (t.pc.toNat : Int) = ((s.pc.toNat : Int) + d) % 65536 ∧
        t.cycles = p.1.cycles + 1 + if t.pc.toNat / 256 = s.pc.toNat / 256 then 0 else 1)

/-- R229, R230, R231, R232, R141, R145: BRA and the three forms of JMP. The pointer of JMP (a) and JMP (a,X)
is read through the bus, its second byte from the next address modulo 65536, whatever page it lies in; a
machine configured with `JMP_IND_PAGE_WRAP` takes that of JMP (a) from the same page (R141). -/
def Obligations.JumpsLoadPc : Prop :=
  (∀ d : Int, displacementOk d = true → ∀ r ∈ braRows d, r.Encoded ∧
    ∀ s : State, ∃ t, exec r.i s = .next t ∧ Unchanged [.pc, .cycles] s t ∧
      (t.pc.toNat : Int) = ((s.pc.toNat : Int) + d) % 65536 ∧
      t.cycles = r.cycles + if t.pc.toNat / 256 = s.pc.toNat / 256 then 0 else 1) ∧
  ∀ a : Word,
    (∀ r ∈ jmpAbsRows a, r.Encoded ∧ r.Simple [.pc] fun _ t => t.pc = a) ∧
    (let through := fun (p next : Word) (s t : State) =>
        let l := s.bus.read p
        let h := l.2.read next
        t.pc.toNat = l.1.toNat + 256 * h.1.toNat ∧ t.bus = h.2 ∧ SameStores s.bus t.bus;
      (∀ r ∈ jmpIndRows a, r.Encoded ∧ r.Simple [.pc, .bus] fun s t =>
        (s.params.jmpIndPageWrap = false → through a (BitVec.ofNat 16 (a.toNat + 1)) s t) ∧
        (s.params.jmpIndPageWrap = true →
          through a (BitVec.ofNat 16 (a.toNat / 256 * 256 + (a.toNat + 1) % 256)) s t)) ∧
      (∀ r ∈ jmpIaxRows a, r.Encoded ∧ r.Simple [.pc, .bus] fun s t =>
        through (BitVec.ofNat 16 (a.toNat + s.x.toNat))
          (BitVec.ofNat 16 (a.toNat + s.x.toNat + 1)) s t))

/-! ### Subroutines, BRK, RTI -/

/-- R240, R241: JSR pushes the address of its last byte, high byte first, and jumps; RTS pulls two bytes, low
byte first, and continues at the word plus one. -/
def Obligations.SubroutineCallAndReturn : Prop :=
  (∀ a : Word, ∀ r ∈ jsrRows a, r.Encoded ∧ r.Simple [.pc, .sp, .bus] fun s t =>
    let ret : Word := s.pc - 1
    t.pc = a ∧ t.sp.toNat = (s.sp.toNat + 254) % 256 ∧
      Pushed s.sp [hiByte ret, loByte ret] s.bus t.bus) ∧
  (∀ r ∈ rtsRows, r.Encoded ∧ r.Simple [.pc, .sp, .bus] fun s t =>
    t.pc.toNat = ((stackByte s 1).toNat + 256 * (stackByte s 2).toNat + 1) % 65536 ∧
      t.sp.toNat = (s.sp.toNat + 2) % 256 ∧ t.bus = pulledBus s 2)

/-- A JSR and the RTS that pulls its frame (the spec's example to R240 and R241): the RTS returns to the address
after the JSR, with SP as it was. The subroutine is at any address. -/
def Obligations.JsrThenRts : Prop :=
  ∀ (s : State) (a q : Word), (s.bus.store .ram).wf = true → ∃ t u,
    exec (.jsr a) s = .next t ∧ t.pc = a ∧ exec .rts { t with pc := q } = .next u ∧
    u.pc = s.pc ∧ u.sp = s.sp

/-- R242: BRK with BRK_HALT = false and `VEC_IRQ` = $FFFE (R6): the pushed return address skips the byte after
the opcode, the pushed status has bits 5 and 4 set and the flags as they were; then I = 1, D = 0, B = 1, and
PC is the word at $FFFE; N, V, Z, C and A, X, Y stay. -/
def Obligations.BrkEntersHandler : Prop :=
  ∀ r ∈ brkRows, r.Encoded ∧ ∀ s : State, s.brkHalt = false → s.params.vecIrq = 0xFFFE →
    ∃ t, exec r.i s = .next t ∧ Entered (s.pc + 1) true 0xFFFE s.bus s t ∧ t.cycles = r.cycles ∧
    Unchanged [.bus, .sp, .pc, .flagI, .flagD, .flagB, .cycles] s t

/-- R243, R411: BRK with BRK_HALT = true stops before vectoring: nothing is pushed, no flag changes, no vector
is read, and PC stays at the address reported, which is the opcode's plus `BRK_HALT_PC_OFFSET` (D24): with its
value 1, the address after the opcode. -/
def Obligations.BrkHaltsForDebugger : Prop :=
  ∀ s : State, s.brkHalt = true → ∃ t, exec .brk s = .next t ∧ t.run = .stopped ∧
    t.stopReason = .brk t.pc ∧ t.pc = s.pc - 1 + s.params.brkHaltPcOffset ∧
    (s.params.brkHaltPcOffset = 1 → t.pc = s.pc) ∧
    Unchanged [.pc, .run, .stopReason, .cycles] s t

/-- R244: RTI pulls the status byte, then PC, low byte first, with nothing added; B stays. -/
def Obligations.RtiRestoresFlagsAndPc : Prop :=
  ∀ r ∈ rtiRows, r.Encoded ∧ r.Simple
    [.pc, .sp, .bus, .flagN, .flagV, .flagD, .flagI, .flagZ, .flagC] fun s t =>
    let p := (stackByte s 1).toNat
    t.flagN.toNat = p / 128 ∧ t.flagV.toNat = p / 64 % 2 ∧ t.flagD.toNat = p / 8 % 2 ∧
    t.flagI.toNat = p / 4 % 2 ∧ t.flagZ.toNat = p / 2 % 2 ∧ t.flagC.toNat = p % 2 ∧
    t.pc.toNat = (stackByte s 2).toNat + 256 * (stackByte s 3).toNat ∧
    t.sp.toNat = (s.sp.toNat + 3) % 256 ∧ t.bus = pulledBus s 3

/-- R244's corner case and R426: "After a BRK at address a, RTI returns to a + 2", with the six flags and SP as
they were before the BRK. The RTI stands at any address. -/
def Obligations.BrkThenRti : Prop :=
  ∀ (s : State) (q : Word), s.brkHalt = false → (s.bus.store .ram).wf = true → ∃ t u,
    exec .brk s = .next t ∧ exec .rti { t with pc := q } = .next u ∧ u.pc = s.pc + 1 ∧
    u.sp = s.sp ∧ u.flagN = s.flagN ∧ u.flagV = s.flagV ∧ u.flagD = s.flagD ∧
    u.flagI = s.flagI ∧ u.flagZ = s.flagZ ∧ u.flagC = s.flagC

/-! ### Zero-page bit instructions -/

/-- R250, R251, R254, R104, R210: RMBn and SMBn, n = 0..7: the byte with bit n cleared, or set, and no flag. -/
def Obligations.ResetAndSetMemoryBit : Prop :=
  ∀ z : Byte,
    (∀ p ∈ rmbRows z, p.1.opcode.toNat = 0x07 + 0x10 * p.2 ∧ p.1.Encoded ∧
      p.1.ModifiesMemory []
        (fun _ m w => ∀ k, k < 8 → (w.getLsbD k = true ↔ m.getLsbD k = true ∧ k ≠ p.2))
        fun _ _ _ _ => True) ∧
    (∀ p ∈ smbRows z, p.1.opcode.toNat = 0x87 + 0x10 * p.2 ∧ p.1.Encoded ∧
      p.1.ModifiesMemory []
        (fun _ m w => ∀ k, k < 8 → (w.getLsbD k = true ↔ m.getLsbD k = true ∨ k = p.2))
        fun _ _ _ _ => True)

/-- R252, R253, R146, R254, R104: BBRn and BBSn, n = 0..7: the zero-page byte is read once, its read standing
before the displacement's in the access order; the branch is taken iff bit n is 0, or 1; nothing else
changes. -/
def Obligations.BranchOnMemoryBit : Prop :=
  let tests := fun (taken : Byte → Bool) (r : Row) (z : Byte) (d : Int) =>
    ∀ s : State, ∃ t, exec r.i s = .next t ∧ Unchanged [.pc, .cycles, .bus] s t ∧
      (let m := s.bus.byteAt .ram z.toNat;
        t.bus = { s.bus with accesses := t.bus.accesses } ∧
        (∀ pre x, s.bus.accesses = pre ++ [x] →
          t.bus.accesses = pre ++ [⟨.read, BitVec.ofNat 16 z.toNat, m⟩, x]) ∧
        (taken m = false → t.pc = s.pc ∧ t.cycles = r.cycles) ∧
        (taken m = true → (t.pc.toNat : Int) = ((s.pc.toNat : Int) + d) % 65536 ∧
          t.cycles = r.cycles + 1 + if t.pc.toNat / 256 = s.pc.toNat / 256 then 0 else 1))
  ∀ (z : Byte) (d : Int), displacementOk d = true →
    (∀ p ∈ bbrRows z d, p.1.opcode.toNat = 0x0F + 0x10 * p.2 ∧ p.1.Encoded ∧
      tests (fun m => !m.getLsbD p.2) p.1 z d) ∧
    (∀ p ∈ bbsRows z d, p.1.opcode.toNat = 0x8F + 0x10 * p.2 ∧ p.1.Encoded ∧
      tests (fun m => m.getLsbD p.2) p.1 z d)

/-! ### Transfers, stack, flags, NOPs -/

/-- R260 to R265: TAX, TAY, TXA, TYA, TSX set N and Z from the value moved; TXS sets no flag. -/
def Obligations.Transfers : Prop :=
  (∀ p ∈ transferToARows, p.1.Encoded ∧ p.1.Simple [.a, .flagN, .flagZ] fun s t =>
    t.a = p.2 s ∧ NZ (p.2 s) t) ∧
  (∀ p ∈ transferToXRows, p.1.Encoded ∧ p.1.Simple [.x, .flagN, .flagZ] fun s t =>
    t.x = p.2 s ∧ NZ (p.2 s) t) ∧
  (∀ r ∈ tayRows, r.Encoded ∧ r.Simple [.y, .flagN, .flagZ] fun s t => t.y = s.a ∧ NZ s.a t) ∧
  (∀ r ∈ txsRows, r.Encoded ∧ r.Simple [.sp] fun s t => t.sp = s.x)

/-- R266, R268, R270, R272: PHA, PHX, PHY push the register, PHP the status byte with bits 5 and 4 set whatever
B holds; SP wraps modulo 256 and no flag changes. -/
def Obligations.PushesStoreAndDecrement : Prop :=
  ∀ p ∈ pushRows, p.1.Encoded ∧ p.1.Simple [.sp, .bus] fun s t =>
    Pushed s.sp [p.2 s] s.bus t.bus ∧ t.sp.toNat = (s.sp.toNat + 255) % 256

/-- R267, R269, R271, R273: PLA, PLX, PLY pull the register and set N and Z; PLP unpacks the six flags and
leaves B; SP wraps modulo 256. -/
def Obligations.PullsIncrementAndLoad : Prop :=
  let pulled := fun s t : State =>
    t.sp.toNat = (s.sp.toNat + 1) % 256 ∧ t.bus = pulledBus s 1
  (∀ r ∈ plaRows, r.Encoded ∧ r.Simple [.a, .flagN, .flagZ, .sp, .bus] fun s t =>
    pulled s t ∧ t.a = stackByte s 1 ∧ NZ t.a t) ∧
  (∀ r ∈ plxRows, r.Encoded ∧ r.Simple [.x, .flagN, .flagZ, .sp, .bus] fun s t =>
    pulled s t ∧ t.x = stackByte s 1 ∧ NZ t.x t) ∧
  (∀ r ∈ plyRows, r.Encoded ∧ r.Simple [.y, .flagN, .flagZ, .sp, .bus] fun s t =>
    pulled s t ∧ t.y = stackByte s 1 ∧ NZ t.y t) ∧
  (∀ r ∈ plpRows, r.Encoded ∧ r.Simple
    [.flagN, .flagV, .flagD, .flagI, .flagZ, .flagC, .sp, .bus] fun s t =>
    let p := (stackByte s 1).toNat
    pulled s t ∧ t.flagN.toNat = p / 128 ∧ t.flagV.toNat = p / 64 % 2 ∧
    t.flagD.toNat = p / 8 % 2 ∧ t.flagI.toNat = p / 4 % 2 ∧ t.flagZ.toNat = p / 2 % 2 ∧
    t.flagC.toNat = p % 2)

/-- R274 to R280: CLC, SEC, CLI, SEI, CLD, SED, CLV write their one flag and nothing else. -/
def Obligations.FlagInstructions : Prop :=
  ∀ p ∈ flagRows, p.1.Encoded ∧ p.1.Simple [flagField p.2.1] fun _ t => readFlag p.2.1 t = p.2.2

/-- R281, R286 to R291: NOP and the 44 reserved NOPs: their bytes and cycles, and nothing else; the address an
operand names is not accessed. -/
def Obligations.NopsDoNothing : Prop :=
  ∀ (v z : Byte) (a : Word), ∀ r ∈ nopRows v z a, r.Encoded ∧ r.Simple [] fun _ _ => True

/-- R292, R413: $CB and $DB, where they are configured as unimplemented (the value of R6), halt: PC back at the
opcode, the core Stopped with the opcode and that address reported, no cycles, and nothing else changed. A byte
taken out of the parameter is a one-byte, one-cycle NOP. -/
def Obligations.UnimplementedOpcodesHalt : Prop :=
  ∀ r ∈ unimplementedRows, r.Encoded ∧ ∀ s : State, ∃ t, exec r.i s = .next t ∧
    (r.opcode ∈ s.params.unimplementedOpcodes →
      t.pc = s.pc - 1 ∧ t.run = .stopped ∧
      t.stopReason = .unimplementedOpcode r.opcode (s.pc - 1) ∧ t.cycles = 0 ∧
      Unchanged [.pc, .run, .stopReason, .cycles] s t) ∧
    (r.opcode ∉ s.params.unimplementedOpcodes → t.cycles = 1 ∧ Unchanged [.cycles] s t)

/-! ### Interrupts and whole-machine rules -/

/-- R421, R422, R423, R424, with the vectors of R6: interrupts at a boundary. A pending or arriving NMI is
taken whatever I is, and its latch cleared; else an asserted IRQ is taken iff I = 0, and while I = 1 the
boundary is as without it. Entry pushes PC as it is and the status with bit 4 clear, sets I, clears D and B,
loads PC from the vector, and takes seven cycles. -/
def Obligations.InterruptsAtBoundary : Prop :=
  ∀ (s : State) (irq nmi : Bool) (rest : List Boundary), AtBoundary s irq nmi rest →
    s.params.vecNmi = 0xFFFA → s.params.vecIrq = 0xFFFE →
    let b := { s.bus with accesses := [], deviceWrites := [] }
    let entry := fun (vec : Nat) (t : State) =>
      Entered s.pc false vec b s t ∧ t.nmiPending = false ∧ t.cycles = 7 ∧ t.tick = some 7 ∧
        t.schedule = rest ∧ Unchanged entryFields s t
    ((s.nmiPending || nmi) = true → ∃ t, step s = .next t ∧ entry 0xFFFA t) ∧
    ((s.nmiPending || nmi) = false →
      (irq = true → s.flagI = false → ∃ t, step s = .next t ∧ entry 0xFFFE t) ∧
      (s.flagI = true → step s = step { s with schedule := ⟨[], false, nmi⟩ :: rest }))

/-- Whole-machine rules read from R14, R23, R24, R27, R29, R30, R31, R32, R33, R39, as one statement over all
instructions: which instructions write SP, V, C, D, I and B; that no instruction writes ROM or the handler
tables or the configuration; and that the language-card bits change only by an access of a switch ($C080 on,
R6). -/
def Obligations.OnlyListedInstructionsWrite : Prop :=
  ∀ (i : Instr) (s : State), ∃ t, exec i s = .next t ∧
    (t.sp ≠ s.sp → i.mnemonic ∈ ([.txs, .pha, .phx, .phy, .php, .pla, .plx, .ply, .plp, .jsr, .rts,
      .brk, .rti] : List Mnemonic)) ∧
    (t.flagV ≠ s.flagV → i.mnemonic ∈ ([.adc, .sbc, .bit, .clv, .plp, .rti] : List Mnemonic)) ∧
    (t.flagC ≠ s.flagC → i.mnemonic ∈ ([.adc, .sbc, .cmp, .cpx, .cpy, .asl, .rol, .lsr, .ror, .clc,
      .sec, .plp, .rti] : List Mnemonic)) ∧
    (t.flagD ≠ s.flagD → i.mnemonic ∈ ([.sed, .cld, .plp, .rti, .brk] : List Mnemonic)) ∧
    (t.flagI ≠ s.flagI → i.mnemonic ∈ ([.sei, .cli, .plp, .rti, .brk] : List Mnemonic)) ∧
    (t.flagB ≠ s.flagB → i.mnemonic = .brk) ∧
    (∀ k, t.bus.byteAt .rom k = s.bus.byteAt .rom k) ∧
    t.bus.readHandlers = s.bus.readHandlers ∧ t.bus.writeHandlers = s.bus.writeHandlers ∧
    t.params = s.params ∧ t.bus.params = s.bus.params ∧
    (s.bus.params.lcBase = 0xC080 →
      (∀ x ∈ t.bus.accesses, x.addr.toNat < 0xC080 ∨ 0xC08F < x.addr.toNat) →
      SameCard s.bus t.bus)

/-- R454: where a program terminates (PC at a one-instruction loop, `80 FE` or `4C` to itself:
`TerminatesAt`), the machine goes on stepping and nothing changes any more: after one step the state is a
fixed point of `step`, it is still terminated at the same address, and it differs from the first only in the
step's outputs. -/
def Obligations.SelfLoopIsAFixedPoint : Prop :=
  ∀ (s : State) (e : Word), s.TerminatesAt e → s.Quiet → s.breakpoints = [] → s.singleStep = false →
    ∃ t, step s = .next t ∧ step t = .next t ∧ t.TerminatesAt e ∧
      SameStores s.bus t.bus ∧ SameCard s.bus t.bus ∧
      t.bus = { s.bus with accesses := t.bus.accesses, deviceWrites := t.bus.deviceWrites } ∧
      Unchanged [.bus, .cycles, .tick, .penalty, .firstBoundary] s t

/-- The invariant is kept by every step, from every state that meets it: the configuration stays an allowed
one, the stores stay in canonical form with no index they do not have, the handler table keeps the card's
sixteen entries free (R73), the breakpoint set holds nothing twice, and a Stopped core has no request pending
(R431, R432, R434). -/
def Obligations.EveryStepKeepsInv : Prop :=
  ∀ s t : State, s.Inv → step s = .next t → t.Inv

/-- The state after reset meets the invariant. -/
def Obligations.ResetMeetsInv : Prop := State.reset.Inv
end

