-- ==== Sys2Proof/Laws/Memory.lean ====
section
/-! SUPPORT. The laws of one store: a read after a write, the canonical form kept, and equal reads mean equal
stores. -/

namespace Sys2Proof.Machine

theorem Memory.read_cons (k : Nat) (w : Byte) (m : Memory) (i : Nat) :
    Memory.read ((k, w) :: m) i = if i = k then w else m.read i := rfl

theorem Memory.wfAbove_cons (k : Nat) (w : Byte) (m : Memory) (lower : Option Nat) :
    Memory.wfAbove ((k, w) :: m) lower = true ↔
      (∀ n, lower = some n → n < k) ∧ w ≠ Config.unlistedByte ∧ m.wfAbove (some k) = true := by
  cases lower <;> simp [Memory.wfAbove, and_assoc]

theorem Memory.wfAbove_none {m : Memory} {n : Nat} (h : m.wfAbove (some n) = true) :
    m.wf = true := by
  cases m with
  | nil => rfl
  | cons c m =>
    obtain ⟨k, w⟩ := c
    rw [Memory.wfAbove_cons] at h
    exact (Memory.wfAbove_cons k w m none).2 ⟨by simp, h.2.1, h.2.2⟩

theorem Memory.wfAbove_mono {m : Memory} {n k : Nat} (hnk : n ≤ k)
    (h : m.wfAbove (some k) = true) : m.wfAbove (some n) = true := by
  cases m with
  | nil => rfl
  | cons c m =>
    obtain ⟨j, w⟩ := c
    rw [Memory.wfAbove_cons] at h ⊢
    refine ⟨?_, h.2⟩
    have := h.1 k rfl
    intro a ha
    cases ha
    omega

/-- An index not above the bound of a store is not listed in it. -/
theorem Memory.read_of_le {m : Memory} {n i : Nat} (h : m.wfAbove (some n) = true) (hi : i ≤ n) :
    m.read i = Config.unlistedByte := by
  induction m generalizing n with
  | nil => rfl
  | cons c m ih =>
    obtain ⟨k, w⟩ := c
    rw [Memory.wfAbove_cons] at h
    have := h.1 n rfl
    rw [Memory.read, if_neg (by omega)]
    exact ih h.2.2 (by omega)

/-- A write leaves every other index alone, in any store. -/
theorem Memory.read_write_other (m : Memory) {i j : Nat} (v : Byte) (h : j ≠ i) :
    (m.write i v).read j = m.read j := by
  induction m with
  | nil =>
    simp only [Memory.write]
    split <;> simp [Memory.read, h]
  | cons c m ih =>
    obtain ⟨k, w⟩ := c
    simp only [Memory.write]
    split
    · split <;> simp [Memory.read, h]
    · split
      · rename_i hik
        subst hik
        split <;> simp [Memory.read, h]
      · simp [Memory.read, ih]

/-- In a store in canonical form a read after a write gives the byte written. -/
theorem Memory.read_write_same {m : Memory} (h : m.wf = true) (i : Nat) (v : Byte) :
    (m.write i v).read i = v := by
  unfold Memory.wf at h
  suffices H : ∀ (m : Memory) (lower : Option Nat), m.wfAbove lower = true →
      (m.write i v).read i = v from H m none h
  intro m
  induction m with
  | nil =>
    intro _ _
    simp only [Memory.write]
    split
    · rename_i hv; simp [Memory.read, hv]
    · simp [Memory.read]
  | cons c m ih =>
    obtain ⟨k, w⟩ := c
    intro lower h
    rw [Memory.wfAbove_cons] at h
    simp only [Memory.write]
    split
    · rename_i hik
      split
      · rename_i hv
        rw [Memory.read, if_neg (by omega), Memory.read_of_le h.2.2 (by omega), hv]
      · simp [Memory.read]
    · split
      · rename_i hik
        split
        · rename_i hv
          rw [Memory.read_of_le h.2.2 (by omega), hv]
        · simp [Memory.read, hik]
      · rename_i hik
        rw [Memory.read, if_neg hik]
        exact ih (some k) h.2.2

theorem Memory.wfAbove_write {m : Memory} {lower : Option Nat} (h : m.wfAbove lower = true) (i : Nat)
    (v : Byte) (hi : ∀ n, lower = some n → n < i) : (m.write i v).wfAbove lower = true := by
  induction m generalizing lower with
  | nil =>
    simp only [Memory.write]
    split
    · rfl
    · rename_i hv
      rw [Memory.wfAbove_cons]
      exact ⟨hi, hv, rfl⟩
  | cons c m ih =>
    obtain ⟨k, w⟩ := c
    have h0 := h
    rw [Memory.wfAbove_cons] at h
    simp only [Memory.write]
    split
    · rename_i hik
      split
      · exact h0
      · rename_i hv
        rw [Memory.wfAbove_cons, Memory.wfAbove_cons]
        exact ⟨hi, hv, by rintro n ⟨⟩; exact hik, h.2⟩
    · split
      · rename_i hik
        split
        · cases lower with
          | none => exact Memory.wfAbove_none h.2.2
          | some n => exact Memory.wfAbove_mono (Nat.le_of_lt (h.1 n rfl)) h.2.2
        · rename_i hv
          rw [Memory.wfAbove_cons]
          exact ⟨h.1, hv, h.2.2⟩
      · rw [Memory.wfAbove_cons]
        exact ⟨h.1, h.2.1, ih h.2.2 (by rintro n ⟨⟩; omega)⟩

/-- A write keeps the canonical form. -/
theorem Memory.wf_write {m : Memory} (h : m.wf = true) (i : Nat) (v : Byte) :
    (m.write i v).wf = true := Memory.wfAbove_write h i v (by simp)

/-- A write lists no index but those listed before and its own. -/
theorem Memory.mem_write {m : Memory} {i : Nat} {v : Byte} {c : Host.Cell} (h : c ∈ m.write i v) :
    c.1 = i ∨ c ∈ m := by
  induction m with
  | nil =>
    simp only [Memory.write] at h
    split at h
    · exact absurd h (by simp)
    · rw [List.mem_singleton] at h; exact .inl (by rw [h])
  | cons d m ih =>
    obtain ⟨k, w⟩ := d
    simp only [Memory.write] at h
    split at h
    · split at h
      · exact .inr h
      · rcases List.mem_cons.1 h with h | h
        · exact .inl (by rw [h])
        · exact .inr h
    · split at h
      · rename_i hik
        split at h
        · exact .inr (List.mem_cons_of_mem _ h)
        · rcases List.mem_cons.1 h with h | h
          · exact .inl (by rw [h, hik])
          · exact .inr (List.mem_cons_of_mem _ h)
      · rcases List.mem_cons.1 h with h | h
        · exact .inr (by rw [h]; exact List.mem_cons_self)
        · rcases ih h with h | h
          · exact .inl h
          · exact .inr (List.mem_cons_of_mem _ h)

/-- Stores in canonical form that read alike everywhere are equal data. -/
theorem Memory.eq_of_read_eq {m n : Memory} (hm : m.wf = true) (hn : n.wf = true)
    (h : ∀ i, m.read i = n.read i) : m = n := by
  suffices H : ∀ (m n : Memory) (l : Option Nat), m.wfAbove l = true → n.wfAbove l = true →
      (∀ i, m.read i = n.read i) → m = n from H m n none hm hn h
  clear h hm hn m n
  intro m
  induction m with
  | nil =>
    intro n l _ hn h
    cases n with
    | nil => rfl
    | cons c n =>
      obtain ⟨k, w⟩ := c
      rw [Memory.wfAbove_cons] at hn
      have := h k
      rw [Memory.read, Memory.read, if_pos rfl] at this
      exact absurd this.symm hn.2.1
  | cons c m ih =>
    obtain ⟨k, w⟩ := c
    intro n l hm hn h
    rw [Memory.wfAbove_cons] at hm
    cases n with
    | nil =>
      have := h k
      rw [Memory.read, Memory.read, if_pos rfl] at this
      exact absurd this hm.2.1
    | cons d n =>
      obtain ⟨j, u⟩ := d
      rw [Memory.wfAbove_cons] at hn
      have hk := h k
      have hj := h j
      rw [Memory.read, if_pos rfl] at hk
      rw [Memory.read_cons j u, if_pos rfl] at hj
      rcases Nat.lt_trichotomy k j with hlt | heq | hgt
      · rw [Memory.read, if_neg (by omega), Memory.read_of_le hn.2.2 (by omega)] at hk
        exact absurd hk hm.2.1
      · subst heq
        rw [Memory.read, if_pos rfl] at hk
        subst hk
        congr 1
        refine ih n (some k) hm.2.2 hn.2.2 fun i => ?_
        by_cases hik : i ≤ k
        · rw [Memory.read_of_le hm.2.2 hik, Memory.read_of_le hn.2.2 hik]
        · have := h i
          rwa [Memory.read, if_neg (by omega), Memory.read, if_neg (by omega)] at this
      · rw [Memory.read, if_neg (by omega), Memory.read_of_le hm.2.2 (by omega)] at hj
        exact absurd hj.symm hn.2.1

/-- The empty store is in canonical form. -/
theorem Memory.wf_nil : Memory.wf [] = true := rfl

end Sys2Proof.Machine
end

