-- ==== Sys2Proof/Laws/Bus.lean ====
section
/-! SUPPORT. The laws of the bus: what one read and one write can change, said once (20_memory.md R60 to R73).
The last section is the invariant of the bus. -/

namespace Sys2Proof.Machine

/-! ### One store among the five -/

theorem Bus.store_setStore (b : Bus) (st st' : Store) (m : Memory) :
    (b.setStore st m).store st' = if st' = st then m else b.store st' := by
  cases st <;> cases st' <;> rfl

theorem Bus.byteAt_poke_other (b : Bus) {st st' : Store} {i j : Nat} (v : Byte)
    (h : (st, i) ≠ (st', j)) : (b.poke st i v).byteAt st' j = b.byteAt st' j := by
  rw [Bus.byteAt, Bus.poke, Bus.store_setStore]
  split
  · rename_i hst
    subst hst
    exact Memory.read_write_other _ _ fun hj => h (by rw [hj])
  · rfl

theorem Bus.byteAt_poke_same {b : Bus} {st : Store} (h : (b.store st).wf = true) (i : Nat)
    (v : Byte) : (b.poke st i v).byteAt st i = v := by
  rw [Bus.byteAt, Bus.poke, Bus.store_setStore, if_pos rfl]
  exact Memory.read_write_same h i v

/-! ### Fields a store update leaves alone -/

@[simp] theorem Bus.setStore_lcBank2 (b : Bus) (st : Store) (m : Memory) :
    (b.setStore st m).lcBank2 = b.lcBank2 := by cases st <;> rfl
@[simp] theorem Bus.setStore_lcReadRam (b : Bus) (st : Store) (m : Memory) :
    (b.setStore st m).lcReadRam = b.lcReadRam := by cases st <;> rfl
@[simp] theorem Bus.setStore_lcWriteRam (b : Bus) (st : Store) (m : Memory) :
    (b.setStore st m).lcWriteRam = b.lcWriteRam := by cases st <;> rfl
@[simp] theorem Bus.setStore_lcPreWrite (b : Bus) (st : Store) (m : Memory) :
    (b.setStore st m).lcPreWrite = b.lcPreWrite := by cases st <;> rfl
@[simp] theorem Bus.setStore_readHandlers (b : Bus) (st : Store) (m : Memory) :
    (b.setStore st m).readHandlers = b.readHandlers := by cases st <;> rfl
@[simp] theorem Bus.setStore_writeHandlers (b : Bus) (st : Store) (m : Memory) :
    (b.setStore st m).writeHandlers = b.writeHandlers := by cases st <;> rfl
@[simp] theorem Bus.setStore_deviceReads (b : Bus) (st : Store) (m : Memory) :
    (b.setStore st m).deviceReads = b.deviceReads := by cases st <;> rfl
@[simp] theorem Bus.setStore_params (b : Bus) (st : Store) (m : Memory) :
    (b.setStore st m).params = b.params := by cases st <;> rfl
@[simp] theorem Bus.setStore_deviceWrites (b : Bus) (st : Store) (m : Memory) :
    (b.setStore st m).deviceWrites = b.deviceWrites := by cases st <;> rfl
@[simp] theorem Bus.setStore_accesses (b : Bus) (st : Store) (m : Memory) :
    (b.setStore st m).accesses = b.accesses := by cases st <;> rfl

/-! ### The switches -/

@[simp] theorem Bus.lcAccess_store (b : Bus) (a : Word) (d : Dir) (st : Store) :
    (b.lcAccess a d).store st = b.store st := by
  cases d <;> simp only [Bus.lcAccess] <;> (split <;> cases st <;> rfl)

@[simp] theorem Bus.lcAccess_readHandlers (b : Bus) (a : Word) (d : Dir) :
    (b.lcAccess a d).readHandlers = b.readHandlers := by
  cases d <;> simp only [Bus.lcAccess] <;> split <;> rfl

@[simp] theorem Bus.lcAccess_writeHandlers (b : Bus) (a : Word) (d : Dir) :
    (b.lcAccess a d).writeHandlers = b.writeHandlers := by
  cases d <;> simp only [Bus.lcAccess] <;> split <;> rfl

@[simp] theorem Bus.lcAccess_accesses (b : Bus) (a : Word) (d : Dir) :
    (b.lcAccess a d).accesses = b.accesses := by
  cases d <;> simp only [Bus.lcAccess] <;> split <;> rfl

@[simp] theorem Bus.lcAccess_deviceReads (b : Bus) (a : Word) (d : Dir) :
    (b.lcAccess a d).deviceReads = b.deviceReads := by
  cases d <;> simp only [Bus.lcAccess] <;> split <;> rfl

@[simp] theorem Bus.lcAccess_deviceWrites (b : Bus) (a : Word) (d : Dir) :
    (b.lcAccess a d).deviceWrites = b.deviceWrites := by
  cases d <;> simp only [Bus.lcAccess] <;> split <;> rfl

@[simp] theorem Bus.lcAccess_params (b : Bus) (a : Word) (d : Dir) :
    (b.lcAccess a d).params = b.params := by
  cases d <;> simp only [Bus.lcAccess] <;> split <;> rfl

/-- With an allowed configuration a switch address lies in the I/O page. -/
theorem isIo_of_isSwitch {b : Bus} {a : Word} (hp : paramsOk b.params) (h : b.isSwitch a = true) :
    isIo a = true := by
  simp only [paramsOk, Bus.isSwitch, isIo, Bool.and_eq_true, decide_eq_true_eq] at *
  omega

/-- The sixteen switches, at the address R6 gives them. -/
theorem Bus.isSwitch_iff {b : Bus} (hb : b.params.lcBase = 0xC080) (a : Word) :
    b.isSwitch a = true ↔ 0xC080 ≤ a.toNat ∧ a.toNat ≤ 0xC08F := by
  simp only [Bus.isSwitch, hb, Bool.and_eq_true, decide_eq_true_eq]
  rfl

/-! ### The maps -/

theorem Bus.readMap_eq_none (b : Bus) (a : Word) : b.readMap a = none ↔ isIo a = true := by
  simp only [Bus.readMap, isIo, Bool.and_eq_true, decide_eq_true_eq]
  repeat' split
  all_goals first
    | exact iff_of_true rfl (by omega)
    | exact iff_of_false (fun h => nomatch h) (by omega)

/-- Outside the I/O page a read is of one cell, and leaves the bus as it is but for the access list. -/
theorem Bus.read_of_map {b : Bus} {a : Word} {c : Store × Nat} (h : b.readMap a = some c) :
    b.read a = (b.byteAt c.1 c.2, b.note ⟨.read, a, b.byteAt c.1 c.2⟩) := by
  simp only [Bus.read, Bus.readRaw, h]

theorem Bus.readMap_ram (b : Bus) {a : Word} (h : a.toNat ≤ 0xBFFF) :
    b.readMap a = some (.ram, a.toNat) := by rw [Bus.readMap, if_pos h]

theorem Bus.writeMap_ram (b : Bus) {a : Word} (h : a.toNat ≤ 0xBFFF) :
    b.writeMap a = some (.ram, a.toNat) := by rw [Bus.writeMap, if_pos h]

/-- A write lands in no ROM. -/
theorem Bus.writeMap_ne_rom (b : Bus) (a : Word) (i : Nat) : b.writeMap a ≠ some (.rom, i) := by
  simp only [Bus.writeMap, Bus.cardCell, Bus.bank]
  repeat' split
  all_goals simp

/-! ### Reading -/

@[simp] theorem Bus.note_store (b : Bus) (x : BusAccess) (st : Store) :
    (b.note x).store st = b.store st := by cases st <;> rfl

/-- A read changes no store. -/
@[simp] theorem Bus.read_store (b : Bus) (a : Word) (st : Store) :
    (b.read a).2.store st = b.store st := by
  simp only [Bus.read, Bus.note_store, Bus.readRaw]
  split
  · rfl
  · simp only [Bus.ioRead]
    split
    · simp
    · split
      · cases st <;> rfl
      · rfl

/-- A read changes no byte of any store. -/
theorem Bus.read_sameStores (b : Bus) (a : Word) : SameStores b (b.read a).2 := fun st i => by
  simp [Bus.byteAt]

@[simp] theorem Bus.read_byteAt (b : Bus) (a : Word) (st : Store) (i : Nat) :
    (b.read a).2.byteAt st i = b.byteAt st i := Bus.read_sameStores b a st i

/-- A read adds itself to the access list. -/
@[simp] theorem Bus.read_accesses (b : Bus) (a : Word) :
    (b.read a).2.accesses = b.accesses ++ [⟨.read, a, (b.read a).1⟩] := by
  simp only [Bus.read, Bus.note, Bus.readRaw]
  split
  · rfl
  · simp only [Bus.ioRead]
    split
    · simp
    · split <;> rfl

@[simp] theorem Bus.read_readHandlers (b : Bus) (a : Word) :
    (b.read a).2.readHandlers = b.readHandlers := by
  simp only [Bus.read, Bus.note, Bus.readRaw]
  split
  · rfl
  · simp only [Bus.ioRead]
    split
    · simp
    · split <;> rfl

@[simp] theorem Bus.read_writeHandlers (b : Bus) (a : Word) :
    (b.read a).2.writeHandlers = b.writeHandlers := by
  simp only [Bus.read, Bus.note, Bus.readRaw]
  split
  · rfl
  · simp only [Bus.ioRead]
    split
    · simp
    · split <;> rfl

/-- A read changes no parameter. -/
@[simp] theorem Bus.read_params (b : Bus) (a : Word) : (b.read a).2.params = b.params := by
  simp only [Bus.read, Bus.note, Bus.readRaw]
  split
  · rfl
  · simp only [Bus.ioRead]
    split
    · simp
    · split <;> rfl

/-- A read calls no write handler. -/
@[simp] theorem Bus.read_deviceWrites (b : Bus) (a : Word) :
    (b.read a).2.deviceWrites = b.deviceWrites := by
  simp only [Bus.read, Bus.note, Bus.readRaw]
  split
  · rfl
  · simp only [Bus.ioRead]
    split
    · simp
    · split <;> rfl

/-- A read off the switches leaves the language card as it is. -/
theorem Bus.read_sameCard (b : Bus) {a : Word} (h : b.isSwitch a = false) :
    SameCard b (b.read a).2 := by
  simp only [Bus.read, Bus.note, Bus.readRaw]
  split
  · exact ⟨rfl, rfl, rfl, rfl⟩
  · simp only [Bus.ioRead, h]
    simp only [Bool.false_eq_true, if_false]
    split <;> exact ⟨rfl, rfl, rfl, rfl⟩

/-- A read of a switch. -/
theorem Bus.read_switch (b : Bus) {a : Word} (hi : isIo a = true) (h : b.isSwitch a = true) :
    b.read a = (b.params.lcSwitchReadValue,
      (b.lcAccess a .read).note ⟨.read, a, b.params.lcSwitchReadValue⟩) := by
  have := (Bus.readMap_eq_none b a).2 hi
  simp only [Bus.read, Bus.readRaw, this, Bus.ioRead, h, if_true]

/-! ### Writing -/

theorem Bus.write_switch (b : Bus) {a : Word} (v : Byte) (hi : isIo a = true)
    (h : b.isSwitch a = true) :
    b.write a v = (b.lcAccess a .write).note ⟨.write, a, v⟩ := by
  simp only [Bus.write, Bus.writeRaw, hi, if_true, Bus.ioWrite, h]

/-- A write changes at most the cell its address maps to. -/
theorem Bus.write_sameStoresBut (b : Bus) (a : Word) (v : Byte) :
    SameStoresBut (b.writeMap a) b (b.write a v) := by
  intro st i hc
  have hn : ∀ (c : Bus) (x : BusAccess), (c.note x).byteAt st i = c.byteAt st i := fun c x => by
    simp [Bus.byteAt]
  simp only [Bus.write, hn, Bus.writeRaw]
  split
  · simp only [Bus.ioWrite]
    repeat' split
    · simp [Bus.byteAt]
    · cases st <;> rfl
    · rfl
  · split
    · rename_i st' j hm
      exact Bus.byteAt_poke_other _ _ fun he => hc (by rw [hm, he])
    · rfl

/-- A write whose address maps to no cell changes no byte of any store. -/
theorem Bus.write_dropped (b : Bus) {a : Word} (v : Byte) (h : b.writeMap a = none) :
    SameStores b (b.write a v) := fun st i => by
  have := Bus.write_sameStoresBut b a v
  rw [h] at this
  exact this st i (by simp)

theorem Bus.writeMap_io (b : Bus) {a : Word} (h : isIo a = true) : b.writeMap a = none := by
  simp only [isIo, Bool.and_eq_true, decide_eq_true_eq] at h
  rw [Bus.writeMap, if_neg (by omega), if_pos (by omega)]

/-- A write lands in the cell its address maps to. -/
theorem Bus.write_lands {b : Bus} {a : Word} {st : Store} {i : Nat} (v : Byte)
    (h : b.writeMap a = some (st, i)) (hw : (b.store st).wf = true) :
    (b.write a v).byteAt st i = v := by
  have hio : isIo a = false := by
    cases hi : isIo a with
    | false => rfl
    | true => rw [Bus.writeMap_io b hi] at h; exact absurd h (by simp)
  have hn : ∀ (c : Bus) (x : BusAccess), (c.note x).byteAt st i = c.byteAt st i := fun c x => by
    simp [Bus.byteAt]
  simp only [Bus.write, hn, Bus.writeRaw, hio, Bool.false_eq_true, if_false, h]
  exact Bus.byteAt_poke_same hw i v

/-- ROM is never written. -/
theorem Bus.write_rom (b : Bus) (a : Word) (v : Byte) (i : Nat) :
    (b.write a v).byteAt .rom i = b.byteAt .rom i :=
  Bus.write_sameStoresBut b a v .rom i (Bus.writeMap_ne_rom b a i)

@[simp] theorem Bus.write_accesses (b : Bus) (a : Word) (v : Byte) :
    (b.write a v).accesses = b.accesses ++ [⟨.write, a, v⟩] := by
  simp only [Bus.write, Bus.note, Bus.writeRaw]
  split
  · simp only [Bus.ioWrite]
    repeat' split
    all_goals simp
  · split <;> simp [Bus.poke]

@[simp] theorem Bus.write_readHandlers (b : Bus) (a : Word) (v : Byte) :
    (b.write a v).readHandlers = b.readHandlers := by
  simp only [Bus.write, Bus.note, Bus.writeRaw]
  split
  · simp only [Bus.ioWrite]
    repeat' split
    all_goals simp
  · split <;> simp [Bus.poke]

@[simp] theorem Bus.write_writeHandlers (b : Bus) (a : Word) (v : Byte) :
    (b.write a v).writeHandlers = b.writeHandlers := by
  simp only [Bus.write, Bus.note, Bus.writeRaw]
  split
  · simp only [Bus.ioWrite]
    repeat' split
    all_goals simp
  · split <;> simp [Bus.poke]

/-- A write changes no parameter. -/
@[simp] theorem Bus.write_params (b : Bus) (a : Word) (v : Byte) :
    (b.write a v).params = b.params := by
  simp only [Bus.write, Bus.note, Bus.writeRaw]
  split
  · simp only [Bus.ioWrite]
    repeat' split
    all_goals simp
  · split <;> simp [Bus.poke]

/-- A write outside the I/O page calls no write handler. -/
theorem Bus.write_deviceWrites (b : Bus) {a : Word} (v : Byte) (h : isIo a = false) :
    (b.write a v).deviceWrites = b.deviceWrites := by
  simp only [Bus.write, Bus.note, Bus.writeRaw, h, Bool.false_eq_true, if_false]
  split <;> simp [Bus.poke]

/-- A write to an address with a write handler calls it and does nothing else (R72). -/
theorem Bus.write_handled {b : Bus} {a : Word} (v : Byte) (hi : isIo a = true)
    (hs : b.isSwitch a = false) (hh : loByte a ∈ b.writeHandlers) :
    b.write a v = ({ b with deviceWrites := b.deviceWrites ++ [⟨a, v⟩] } : Bus).note ⟨.write, a, v⟩ := by
  simp [Bus.write, Bus.writeRaw, hi, Bus.ioWrite, hs, hh]

/-- A write to an I/O address with no switch and no write handler is dropped (R72, R73). -/
theorem Bus.write_unhandled {b : Bus} {a : Word} (v : Byte) (hi : isIo a = true)
    (hs : b.isSwitch a = false) (hh : loByte a ∉ b.writeHandlers) :
    b.write a v = b.note ⟨.write, a, v⟩ := by
  simp [Bus.write, Bus.writeRaw, hi, Bus.ioWrite, hs, hh]

/-- A write off the switches leaves the language card as it is. -/
theorem Bus.write_sameCard (b : Bus) {a : Word} (v : Byte) (h : b.isSwitch a = false) :
    SameCard b (b.write a v) := by
  simp only [Bus.write, Bus.note, Bus.writeRaw]
  split
  · simp only [Bus.ioWrite, h, Bool.false_eq_true, if_false]
    split <;> exact ⟨rfl, rfl, rfl, rfl⟩
  · split <;> simp [SameCard, Bus.poke]

/-- A write keeps every store in canonical form. -/
theorem Bus.write_wf {b : Bus} {st : Store} (h : (b.store st).wf = true) (a : Word) (v : Byte) :
    ((b.write a v).store st).wf = true := by
  simp only [Bus.write, Bus.note_store, Bus.writeRaw]
  split
  · simp only [Bus.ioWrite]
    repeat' split
    · simpa using h
    · cases st <;> exact h
    · exact h
  · split
    · rw [Bus.poke, Bus.store_setStore]
      split
      · rename_i he
        subst he
        exact Memory.wf_write h _ _
      · exact h
    · exact h

/-! ### The invariant of the bus -/

theorem Bus.storeOk_of_store {b c : Bus} {st : Store} (h : c.store st = b.store st)
    (hb : b.storeOk st) : c.storeOk st := by
  rw [Bus.storeOk, h]; exact hb

theorem Bus.storeOk_poke {b : Bus} {st : Store} {i : Nat} (v : Byte) (hi : st.hasIndex i = true)
    (hb : ∀ st, b.storeOk st) (st' : Store) : (b.poke st i v).storeOk st' := by
  unfold Bus.storeOk
  rw [Bus.poke, Bus.store_setStore]
  split
  · rename_i he
    subst he
    refine ⟨Memory.wf_write (hb st').1 i v, fun c hc => ?_⟩
    rcases Memory.mem_write hc with h | h
    · rw [h]; exact hi
    · exact (hb st').2 c h
  · exact hb st'

theorem Bus.writeMap_hasIndex {b : Bus} {a : Word} {st : Store} {i : Nat}
    (h : b.writeMap a = some (st, i)) : st.hasIndex i = true := by
  have := a.isLt
  simp only [Bus.writeMap, Bus.cardCell, Bus.bank] at h
  repeat' split at h
  all_goals cases h
  all_goals
    simp only [Store.hasIndex, decide_eq_true_eq]
    omega

theorem Bus.readMap_hasIndex {b : Bus} {a : Word} {st : Store} {i : Nat}
    (h : b.readMap a = some (st, i)) : st.hasIndex i = true := by
  have := a.isLt
  simp only [Bus.readMap, Bus.cardCell, Bus.bank] at h
  repeat' split at h
  all_goals cases h
  all_goals
    simp only [Store.hasIndex, decide_eq_true_eq, Bool.and_eq_true]
    omega

/-- A table that is right under a configuration is right under the same configuration of another bus. -/
theorem Bus.handlersOk_of_params {b c : Bus} (h : c.params = b.params) {l : List Byte}
    (hl : b.handlersOk l) : c.handlersOk l := by
  simpa only [Bus.handlersOk, Bus.isCardEntry, Bus.isSwitch, h] using hl

/-- What an access of the bus keeps, once: the invariant follows from the stores, the tables and the
parameters. -/
theorem Bus.Inv.keep {b c : Bus} (h : b.Inv) (hp : c.params = b.params)
    (hr : c.readHandlers = b.readHandlers) (hw : c.writeHandlers = b.writeHandlers)
    (hs : ∀ st, c.storeOk st) : c.Inv where
  params := by rw [hp]; exact h.params
  stores := hs
  readHandlers := by rw [hr]; exact Bus.handlersOk_of_params hp h.readHandlers
  writeHandlers := by rw [hw]; exact Bus.handlersOk_of_params hp h.writeHandlers

theorem Bus.Inv.read {b : Bus} (h : b.Inv) (a : Word) : (b.read a).2.Inv :=
  h.keep (by simp) (by simp) (by simp) fun st =>
    Bus.storeOk_of_store (Bus.read_store b a st) (h.stores st)

theorem Bus.Inv.write {b : Bus} (h : b.Inv) (a : Word) (v : Byte) : (b.write a v).Inv := by
  refine h.keep (by simp) (by simp) (by simp) fun st => ?_
  refine Bus.storeOk_of_store (Bus.note_store _ _ st) ?_
  simp only [Bus.writeRaw]
  split
  · simp only [Bus.ioWrite]
    repeat' split
    · exact Bus.storeOk_of_store (by simp) (h.stores st)
    · exact Bus.storeOk_of_store (by cases st <;> rfl) (h.stores st)
    · exact h.stores st
  · split
    · rename_i st' i hm
      exact Bus.storeOk_poke v (Bus.writeMap_hasIndex hm) h.stores st
    · exact h.stores st

end Sys2Proof.Machine
end

