-- ==== Sys2Proof/Laws/Bytes.lean ====
section
/-! SUPPORT. The laws of byte order, displacements, page-zero and stack addresses: what each helper is as a
number, and which is whose inverse. -/

namespace Sys2Proof

@[simp] theorem loByte_toNat (w : Word) : (loByte w).toNat = w.toNat % 256 := by
  simp [loByte, BitVec.extractLsb'_toNat]

@[simp] theorem hiByte_toNat (w : Word) : (hiByte w).toNat = w.toNat / 256 := by
  have := w.isLt
  simp only [hiByte, BitVec.extractLsb'_toNat, Nat.shiftRight_eq_div_pow]
  omega

@[simp] theorem w16_toNat (l h : Byte) : (w16 l h).toNat = l.toNat + 256 * h.toNat := by
  have := l.isLt
  simp only [w16, BitVec.toNat_append]
  rw [← Nat.shiftLeft_add_eq_or_of_lt l.isLt, Nat.shiftLeft_eq]
  omega

/-- The two bytes of a word make the word. -/
@[simp] theorem w16_loByte_hiByte (w : Word) : w16 (loByte w) (hiByte w) = w := by
  apply BitVec.eq_of_toNat_eq
  rw [w16_toNat, loByte_toNat, hiByte_toNat]
  omega

@[simp] theorem loByte_w16 (l h : Byte) : loByte (w16 l h) = l := by
  apply BitVec.eq_of_toNat_eq
  have := l.isLt
  rw [loByte_toNat, w16_toNat]
  omega

@[simp] theorem hiByte_w16 (l h : Byte) : hiByte (w16 l h) = h := by
  apply BitVec.eq_of_toNat_eq
  have := l.isLt
  rw [hiByte_toNat, w16_toNat]
  omega

@[simp] theorem zeroPage_toNat (z : Byte) : (zeroPage z).toNat = z.toNat := by
  have := z.isLt
  simp only [zeroPage, BitVec.toNat_setWidth]
  omega

/-- A displacement in range survives its byte. -/
theorem displacement_displacementByte {d : Int} (h : displacementOk d = true) :
    displacement (displacementByte d) = d := by
  simp only [displacementOk, Bool.and_eq_true, decide_eq_true_eq] at h
  simp only [displacement, displacementByte, BitVec.toInt_ofInt]
  rw [Int.bmod_def]
  omega

/-- A byte survives its displacement. -/
@[simp] theorem displacementByte_displacement (b : Byte) :
    displacementByte (displacement b) = b := by
  simp [displacement, displacementByte]

/-- Every displacement byte is in range. -/
theorem displacementOk_displacement (b : Byte) : displacementOk (displacement b) = true := by
  have h1 := BitVec.toInt_lt (x := b)
  have h2 := BitVec.le_toInt b
  rw [displacementOk, Bool.and_eq_true]
  exact ⟨decide_eq_true (by simp only [displacement]; omega),
    decide_eq_true (by simp only [displacement]; omega)⟩

namespace Machine

@[simp] theorem stackAddr_toNat (sp : Byte) : (stackAddr sp).toNat = 0x100 + sp.toNat := by
  have := sp.isLt
  simp only [stackAddr, BitVec.toNat_add, BitVec.toNat_setWidth]
  change (256 + _) % 65536 = _
  omega

/-- The stack lies in RAM. -/
theorem stackAddr_ram (sp : Byte) : (stackAddr sp).toNat ≤ 0xBFFF := by
  have := sp.isLt
  rw [stackAddr_toNat]
  omega

/-- Page zero lies in RAM. -/
theorem zeroPage_ram (z : Byte) : (zeroPage z).toNat ≤ 0xBFFF := by
  have := z.isLt
  rw [zeroPage_toNat]
  omega

end Machine
end Sys2Proof
end

