-- ==== Sys2Proof/Laws/PerInstr.lean ====
section
/-! SUPPORT. The statements made of every instruction as syntax, one lemma a constructor.
Family `EncodedLength`: the encoder gives an instruction as many bytes as its format has (R100, R101). -/

namespace Sys2Proof.Laws.EncodedLength

/-- The encoding of `i` has the length of its format. -/
def Statement (i : Instr) : Prop := (encode i).length = i.length

theorem ldaIzx (z : Byte) : Statement (.ldaIzx z) := rfl
theorem ldaZp (z : Byte) : Statement (.ldaZp z) := rfl
theorem ldaImm (v : Byte) : Statement (.ldaImm v) := rfl
theorem ldaAbs (a : Word) : Statement (.ldaAbs a) := rfl
theorem ldaIzy (z : Byte) : Statement (.ldaIzy z) := rfl
theorem ldaIzp (z : Byte) : Statement (.ldaIzp z) := rfl
theorem ldaZpx (z : Byte) : Statement (.ldaZpx z) := rfl
theorem ldaAby (a : Word) : Statement (.ldaAby a) := rfl
theorem ldaAbx (a : Word) : Statement (.ldaAbx a) := rfl
theorem ldxImm (v : Byte) : Statement (.ldxImm v) := rfl
theorem ldxZp (z : Byte) : Statement (.ldxZp z) := rfl
theorem ldxAbs (a : Word) : Statement (.ldxAbs a) := rfl
theorem ldxZpy (z : Byte) : Statement (.ldxZpy z) := rfl
theorem ldxAby (a : Word) : Statement (.ldxAby a) := rfl
theorem ldyImm (v : Byte) : Statement (.ldyImm v) := rfl
theorem ldyZp (z : Byte) : Statement (.ldyZp z) := rfl
theorem ldyAbs (a : Word) : Statement (.ldyAbs a) := rfl
theorem ldyZpx (z : Byte) : Statement (.ldyZpx z) := rfl
theorem ldyAbx (a : Word) : Statement (.ldyAbx a) := rfl
theorem staIzx (z : Byte) : Statement (.staIzx z) := rfl
theorem staZp (z : Byte) : Statement (.staZp z) := rfl
theorem staAbs (a : Word) : Statement (.staAbs a) := rfl
theorem staIzy (z : Byte) : Statement (.staIzy z) := rfl
theorem staIzp (z : Byte) : Statement (.staIzp z) := rfl
theorem staZpx (z : Byte) : Statement (.staZpx z) := rfl
theorem staAby (a : Word) : Statement (.staAby a) := rfl
theorem staAbx (a : Word) : Statement (.staAbx a) := rfl
theorem stxZp (z : Byte) : Statement (.stxZp z) := rfl
theorem stxAbs (a : Word) : Statement (.stxAbs a) := rfl
theorem stxZpy (z : Byte) : Statement (.stxZpy z) := rfl
theorem styZp (z : Byte) : Statement (.styZp z) := rfl
theorem styAbs (a : Word) : Statement (.styAbs a) := rfl
theorem styZpx (z : Byte) : Statement (.styZpx z) := rfl
theorem stzZp (z : Byte) : Statement (.stzZp z) := rfl
theorem stzZpx (z : Byte) : Statement (.stzZpx z) := rfl
theorem stzAbs (a : Word) : Statement (.stzAbs a) := rfl
theorem stzAbx (a : Word) : Statement (.stzAbx a) := rfl
theorem adcIzx (z : Byte) : Statement (.adcIzx z) := rfl
theorem adcZp (z : Byte) : Statement (.adcZp z) := rfl
theorem adcImm (v : Byte) : Statement (.adcImm v) := rfl
theorem adcAbs (a : Word) : Statement (.adcAbs a) := rfl
theorem adcIzy (z : Byte) : Statement (.adcIzy z) := rfl
theorem adcIzp (z : Byte) : Statement (.adcIzp z) := rfl
theorem adcZpx (z : Byte) : Statement (.adcZpx z) := rfl
theorem adcAby (a : Word) : Statement (.adcAby a) := rfl
theorem adcAbx (a : Word) : Statement (.adcAbx a) := rfl
theorem sbcIzx (z : Byte) : Statement (.sbcIzx z) := rfl
theorem sbcZp (z : Byte) : Statement (.sbcZp z) := rfl
theorem sbcImm (v : Byte) : Statement (.sbcImm v) := rfl
theorem sbcAbs (a : Word) : Statement (.sbcAbs a) := rfl
theorem sbcIzy (z : Byte) : Statement (.sbcIzy z) := rfl
theorem sbcIzp (z : Byte) : Statement (.sbcIzp z) := rfl
theorem sbcZpx (z : Byte) : Statement (.sbcZpx z) := rfl
theorem sbcAby (a : Word) : Statement (.sbcAby a) := rfl
theorem sbcAbx (a : Word) : Statement (.sbcAbx a) := rfl
theorem cmpIzx (z : Byte) : Statement (.cmpIzx z) := rfl
theorem cmpZp (z : Byte) : Statement (.cmpZp z) := rfl
theorem cmpImm (v : Byte) : Statement (.cmpImm v) := rfl
theorem cmpAbs (a : Word) : Statement (.cmpAbs a) := rfl
theorem cmpIzy (z : Byte) : Statement (.cmpIzy z) := rfl
theorem cmpIzp (z : Byte) : Statement (.cmpIzp z) := rfl
theorem cmpZpx (z : Byte) : Statement (.cmpZpx z) := rfl
theorem cmpAby (a : Word) : Statement (.cmpAby a) := rfl
theorem cmpAbx (a : Word) : Statement (.cmpAbx a) := rfl
theorem cpxImm (v : Byte) : Statement (.cpxImm v) := rfl
theorem cpxZp (z : Byte) : Statement (.cpxZp z) := rfl
theorem cpxAbs (a : Word) : Statement (.cpxAbs a) := rfl
theorem cpyImm (v : Byte) : Statement (.cpyImm v) := rfl
theorem cpyZp (z : Byte) : Statement (.cpyZp z) := rfl
theorem cpyAbs (a : Word) : Statement (.cpyAbs a) := rfl
theorem andIzx (z : Byte) : Statement (.andIzx z) := rfl
theorem andZp (z : Byte) : Statement (.andZp z) := rfl
theorem andImm (v : Byte) : Statement (.andImm v) := rfl
theorem andAbs (a : Word) : Statement (.andAbs a) := rfl
theorem andIzy (z : Byte) : Statement (.andIzy z) := rfl
theorem andIzp (z : Byte) : Statement (.andIzp z) := rfl
theorem andZpx (z : Byte) : Statement (.andZpx z) := rfl
theorem andAby (a : Word) : Statement (.andAby a) := rfl
theorem andAbx (a : Word) : Statement (.andAbx a) := rfl
theorem oraIzx (z : Byte) : Statement (.oraIzx z) := rfl
theorem oraZp (z : Byte) : Statement (.oraZp z) := rfl
theorem oraImm (v : Byte) : Statement (.oraImm v) := rfl
theorem oraAbs (a : Word) : Statement (.oraAbs a) := rfl
theorem oraIzy (z : Byte) : Statement (.oraIzy z) := rfl
theorem oraIzp (z : Byte) : Statement (.oraIzp z) := rfl
theorem oraZpx (z : Byte) : Statement (.oraZpx z) := rfl
theorem oraAby (a : Word) : Statement (.oraAby a) := rfl
theorem oraAbx (a : Word) : Statement (.oraAbx a) := rfl
theorem eorIzx (z : Byte) : Statement (.eorIzx z) := rfl
theorem eorZp (z : Byte) : Statement (.eorZp z) := rfl
theorem eorImm (v : Byte) : Statement (.eorImm v) := rfl
theorem eorAbs (a : Word) : Statement (.eorAbs a) := rfl
theorem eorIzy (z : Byte) : Statement (.eorIzy z) := rfl
theorem eorIzp (z : Byte) : Statement (.eorIzp z) := rfl
theorem eorZpx (z : Byte) : Statement (.eorZpx z) := rfl
theorem eorAby (a : Word) : Statement (.eorAby a) := rfl
theorem eorAbx (a : Word) : Statement (.eorAbx a) := rfl
theorem bitZp (z : Byte) : Statement (.bitZp z) := rfl
theorem bitAbs (a : Word) : Statement (.bitAbs a) := rfl
theorem bitZpx (z : Byte) : Statement (.bitZpx z) := rfl
theorem bitAbx (a : Word) : Statement (.bitAbx a) := rfl
theorem bitImm (v : Byte) : Statement (.bitImm v) := rfl
theorem tsbZp (z : Byte) : Statement (.tsbZp z) := rfl
theorem tsbAbs (a : Word) : Statement (.tsbAbs a) := rfl
theorem trbZp (z : Byte) : Statement (.trbZp z) := rfl
theorem trbAbs (a : Word) : Statement (.trbAbs a) := rfl
theorem aslZp (z : Byte) : Statement (.aslZp z) := rfl
theorem aslAcc : Statement (.aslAcc) := rfl
theorem aslAbs (a : Word) : Statement (.aslAbs a) := rfl
theorem aslZpx (z : Byte) : Statement (.aslZpx z) := rfl
theorem aslAbx (a : Word) : Statement (.aslAbx a) := rfl
theorem lsrZp (z : Byte) : Statement (.lsrZp z) := rfl
theorem lsrAcc : Statement (.lsrAcc) := rfl
theorem lsrAbs (a : Word) : Statement (.lsrAbs a) := rfl
theorem lsrZpx (z : Byte) : Statement (.lsrZpx z) := rfl
theorem lsrAbx (a : Word) : Statement (.lsrAbx a) := rfl
theorem rolZp (z : Byte) : Statement (.rolZp z) := rfl
theorem rolAcc : Statement (.rolAcc) := rfl
theorem rolAbs (a : Word) : Statement (.rolAbs a) := rfl
theorem rolZpx (z : Byte) : Statement (.rolZpx z) := rfl
theorem rolAbx (a : Word) : Statement (.rolAbx a) := rfl
theorem rorZp (z : Byte) : Statement (.rorZp z) := rfl
theorem rorAcc : Statement (.rorAcc) := rfl
theorem rorAbs (a : Word) : Statement (.rorAbs a) := rfl
theorem rorZpx (z : Byte) : Statement (.rorZpx z) := rfl
theorem rorAbx (a : Word) : Statement (.rorAbx a) := rfl
theorem incAcc : Statement (.incAcc) := rfl
theorem incZp (z : Byte) : Statement (.incZp z) := rfl
theorem incAbs (a : Word) : Statement (.incAbs a) := rfl
theorem incZpx (z : Byte) : Statement (.incZpx z) := rfl
theorem incAbx (a : Word) : Statement (.incAbx a) := rfl
theorem decAcc : Statement (.decAcc) := rfl
theorem decZp (z : Byte) : Statement (.decZp z) := rfl
theorem decAbs (a : Word) : Statement (.decAbs a) := rfl
theorem decZpx (z : Byte) : Statement (.decZpx z) := rfl
theorem decAbx (a : Word) : Statement (.decAbx a) := rfl
theorem inx : Statement (.inx) := rfl
theorem iny : Statement (.iny) := rfl
theorem dex : Statement (.dex) := rfl
theorem dey : Statement (.dey) := rfl
theorem bcc (d : Int) : Statement (.bcc d) := rfl
theorem bcs (d : Int) : Statement (.bcs d) := rfl
theorem beq (d : Int) : Statement (.beq d) := rfl
theorem bne (d : Int) : Statement (.bne d) := rfl
theorem bmi (d : Int) : Statement (.bmi d) := rfl
theorem bpl (d : Int) : Statement (.bpl d) := rfl
theorem bvc (d : Int) : Statement (.bvc d) := rfl
theorem bvs (d : Int) : Statement (.bvs d) := rfl
theorem bra (d : Int) : Statement (.bra d) := rfl
theorem jmpAbs (a : Word) : Statement (.jmpAbs a) := rfl
theorem jmpInd (a : Word) : Statement (.jmpInd a) := rfl
theorem jmpIax (a : Word) : Statement (.jmpIax a) := rfl
theorem jsr (a : Word) : Statement (.jsr a) := rfl
theorem rts : Statement (.rts) := rfl
theorem brk : Statement (.brk) := rfl
theorem rti : Statement (.rti) := rfl
theorem rmb0 (z : Byte) : Statement (.rmb0 z) := rfl
theorem rmb1 (z : Byte) : Statement (.rmb1 z) := rfl
theorem rmb2 (z : Byte) : Statement (.rmb2 z) := rfl
theorem rmb3 (z : Byte) : Statement (.rmb3 z) := rfl
theorem rmb4 (z : Byte) : Statement (.rmb4 z) := rfl
theorem rmb5 (z : Byte) : Statement (.rmb5 z) := rfl
theorem rmb6 (z : Byte) : Statement (.rmb6 z) := rfl
theorem rmb7 (z : Byte) : Statement (.rmb7 z) := rfl
theorem smb0 (z : Byte) : Statement (.smb0 z) := rfl
theorem smb1 (z : Byte) : Statement (.smb1 z) := rfl
theorem smb2 (z : Byte) : Statement (.smb2 z) := rfl
theorem smb3 (z : Byte) : Statement (.smb3 z) := rfl
theorem smb4 (z : Byte) : Statement (.smb4 z) := rfl
theorem smb5 (z : Byte) : Statement (.smb5 z) := rfl
theorem smb6 (z : Byte) : Statement (.smb6 z) := rfl
theorem smb7 (z : Byte) : Statement (.smb7 z) := rfl
theorem bbr0 (z : Byte) (d : Int) : Statement (.bbr0 z d) := rfl
theorem bbr1 (z : Byte) (d : Int) : Statement (.bbr1 z d) := rfl
theorem bbr2 (z : Byte) (d : Int) : Statement (.bbr2 z d) := rfl
theorem bbr3 (z : Byte) (d : Int) : Statement (.bbr3 z d) := rfl
theorem bbr4 (z : Byte) (d : Int) : Statement (.bbr4 z d) := rfl
theorem bbr5 (z : Byte) (d : Int) : Statement (.bbr5 z d) := rfl
theorem bbr6 (z : Byte) (d : Int) : Statement (.bbr6 z d) := rfl
theorem bbr7 (z : Byte) (d : Int) : Statement (.bbr7 z d) := rfl
theorem bbs0 (z : Byte) (d : Int) : Statement (.bbs0 z d) := rfl
theorem bbs1 (z : Byte) (d : Int) : Statement (.bbs1 z d) := rfl
theorem bbs2 (z : Byte) (d : Int) : Statement (.bbs2 z d) := rfl
theorem bbs3 (z : Byte) (d : Int) : Statement (.bbs3 z d) := rfl
theorem bbs4 (z : Byte) (d : Int) : Statement (.bbs4 z d) := rfl
theorem bbs5 (z : Byte) (d : Int) : Statement (.bbs5 z d) := rfl
theorem bbs6 (z : Byte) (d : Int) : Statement (.bbs6 z d) := rfl
theorem bbs7 (z : Byte) (d : Int) : Statement (.bbs7 z d) := rfl
theorem tax : Statement (.tax) := rfl
theorem tay : Statement (.tay) := rfl
theorem txa : Statement (.txa) := rfl
theorem tya : Statement (.tya) := rfl
theorem tsx : Statement (.tsx) := rfl
theorem txs : Statement (.txs) := rfl
theorem pha : Statement (.pha) := rfl
theorem pla : Statement (.pla) := rfl
theorem phx : Statement (.phx) := rfl
theorem plx : Statement (.plx) := rfl
theorem phy : Statement (.phy) := rfl
theorem ply : Statement (.ply) := rfl
theorem php : Statement (.php) := rfl
theorem plp : Statement (.plp) := rfl
theorem clc : Statement (.clc) := rfl
theorem sec : Statement (.sec) := rfl
theorem cli : Statement (.cli) := rfl
theorem sei : Statement (.sei) := rfl
theorem cld : Statement (.cld) := rfl
theorem sed : Statement (.sed) := rfl
theorem clv : Statement (.clv) := rfl
theorem nop02 (v : Byte) : Statement (.nop02 v) := rfl
theorem nop22 (v : Byte) : Statement (.nop22 v) := rfl
theorem nop42 (v : Byte) : Statement (.nop42 v) := rfl
theorem nop44 (z : Byte) : Statement (.nop44 z) := rfl
theorem nop54 (z : Byte) : Statement (.nop54 z) := rfl
theorem nop5C (a : Word) : Statement (.nop5C a) := rfl
theorem nop62 (v : Byte) : Statement (.nop62 v) := rfl
theorem nop82 (v : Byte) : Statement (.nop82 v) := rfl
theorem nopC2 (v : Byte) : Statement (.nopC2 v) := rfl
theorem nopD4 (z : Byte) : Statement (.nopD4 z) := rfl
theorem nopDC (a : Word) : Statement (.nopDC a) := rfl
theorem nopE2 (v : Byte) : Statement (.nopE2 v) := rfl
theorem nopF4 (z : Byte) : Statement (.nopF4 z) := rfl
theorem nopFC (a : Word) : Statement (.nopFC a) := rfl
theorem nop03 : Statement (.nop03) := rfl
theorem nop0B : Statement (.nop0B) := rfl
theorem nop13 : Statement (.nop13) := rfl
theorem nop1B : Statement (.nop1B) := rfl
theorem nop23 : Statement (.nop23) := rfl
theorem nop2B : Statement (.nop2B) := rfl
theorem nop33 : Statement (.nop33) := rfl
theorem nop3B : Statement (.nop3B) := rfl
theorem nop43 : Statement (.nop43) := rfl
theorem nop4B : Statement (.nop4B) := rfl
theorem nop53 : Statement (.nop53) := rfl
theorem nop5B : Statement (.nop5B) := rfl
theorem nop63 : Statement (.nop63) := rfl
theorem nop6B : Statement (.nop6B) := rfl
theorem nop73 : Statement (.nop73) := rfl
theorem nop7B : Statement (.nop7B) := rfl
theorem nop83 : Statement (.nop83) := rfl
theorem nop8B : Statement (.nop8B) := rfl
theorem nop93 : Statement (.nop93) := rfl
theorem nop9B : Statement (.nop9B) := rfl
theorem nopA3 : Statement (.nopA3) := rfl
theorem nopAB : Statement (.nopAB) := rfl
theorem nopB3 : Statement (.nopB3) := rfl
theorem nopBB : Statement (.nopBB) := rfl
theorem nopC3 : Statement (.nopC3) := rfl
theorem nopD3 : Statement (.nopD3) := rfl
theorem nopE3 : Statement (.nopE3) := rfl
theorem nop : Statement (.nop) := rfl
theorem nopEB : Statement (.nopEB) := rfl
theorem nopF3 : Statement (.nopF3) := rfl
theorem nopFB : Statement (.nopFB) := rfl
theorem unimplementedCB : Statement (.unimplementedCB) := rfl
theorem unimplementedDB : Statement (.unimplementedDB) := rfl

end Sys2Proof.Laws.EncodedLength
end

