-- ==== Sys2Proof/Laws/Decode.lean ====
section
/-! SUPPORT. The decoder by the length of the opcode's row, and the length of every encoding. -/

namespace Sys2Proof

theorem decode_length1 {op : Byte} (h : lengthOf op = 1) (rest : List Byte) :
    decode (op :: rest) = .ok (instrOf op 0 0, rest) := by
  simp only [decode, h]

theorem decode_length2 {op : Byte} (h : lengthOf op = 2) (b1 : Byte) (rest : List Byte) :
    decode (op :: b1 :: rest) = .ok (instrOf op b1 0, rest) := by
  simp only [decode, h]

theorem decode_length3 {op : Byte} (h : lengthOf op = 3) (b1 b2 : Byte) (rest : List Byte) :
    decode (op :: b1 :: b2 :: rest) = .ok (instrOf op b1 b2, rest) := by
  simp only [decode, h]

/-- An operand's bytes are as many as its format has, less the opcode (R101). -/
theorem Operand.length_bytes (o : Operand) : o.bytes.length + 1 = o.length := by cases o <;> rfl

/-- The encoding of an instruction has the length of its format. -/
theorem length_encode (i : Instr) : (encode i).length = i.length := by
  rw [encode, List.length_cons, Operand.length_bytes]
  rfl

end Sys2Proof
end

