-- ==== Sys2Proof/Laws/State.lean ====
section
/-! SUPPORT. One lemma for each field of State and each named update: what the update leaves there. Later proofs cite them and unfold no record update. -/

namespace Sys2Proof.Machine

/-! ### SetNZ -/

@[simp] theorem setNZ_params (v : Byte) (s : State) : (setNZ v s).params = s.params := rfl
@[simp] theorem setNZ_a (v : Byte) (s : State) : (setNZ v s).a = s.a := rfl
@[simp] theorem setNZ_x (v : Byte) (s : State) : (setNZ v s).x = s.x := rfl
@[simp] theorem setNZ_y (v : Byte) (s : State) : (setNZ v s).y = s.y := rfl
@[simp] theorem setNZ_sp (v : Byte) (s : State) : (setNZ v s).sp = s.sp := rfl
@[simp] theorem setNZ_pc (v : Byte) (s : State) : (setNZ v s).pc = s.pc := rfl
@[simp] theorem setNZ_flagN (v : Byte) (s : State) : (setNZ v s).flagN = v.getLsbD 7 := rfl
@[simp] theorem setNZ_flagV (v : Byte) (s : State) : (setNZ v s).flagV = s.flagV := rfl
@[simp] theorem setNZ_flagD (v : Byte) (s : State) : (setNZ v s).flagD = s.flagD := rfl
@[simp] theorem setNZ_flagI (v : Byte) (s : State) : (setNZ v s).flagI = s.flagI := rfl
@[simp] theorem setNZ_flagZ (v : Byte) (s : State) : (setNZ v s).flagZ = (v == 0) := rfl
@[simp] theorem setNZ_flagC (v : Byte) (s : State) : (setNZ v s).flagC = s.flagC := rfl
@[simp] theorem setNZ_flagB (v : Byte) (s : State) : (setNZ v s).flagB = s.flagB := rfl
@[simp] theorem setNZ_nmiPending (v : Byte) (s : State) :
    (setNZ v s).nmiPending = s.nmiPending := rfl
@[simp] theorem setNZ_penalty (v : Byte) (s : State) : (setNZ v s).penalty = s.penalty := rfl
@[simp] theorem setNZ_bus (v : Byte) (s : State) : (setNZ v s).bus = s.bus := rfl
@[simp] theorem setNZ_run (v : Byte) (s : State) : (setNZ v s).run = s.run := rfl
@[simp] theorem setNZ_stopReason (v : Byte) (s : State) :
    (setNZ v s).stopReason = s.stopReason := rfl
@[simp] theorem setNZ_breakpoints (v : Byte) (s : State) :
    (setNZ v s).breakpoints = s.breakpoints := rfl
@[simp] theorem setNZ_brkHalt (v : Byte) (s : State) : (setNZ v s).brkHalt = s.brkHalt := rfl
@[simp] theorem setNZ_resetRequest (v : Byte) (s : State) :
    (setNZ v s).resetRequest = s.resetRequest := rfl
@[simp] theorem setNZ_pauseRequest (v : Byte) (s : State) :
    (setNZ v s).pauseRequest = s.pauseRequest := rfl
@[simp] theorem setNZ_singleStep (v : Byte) (s : State) :
    (setNZ v s).singleStep = s.singleStep := rfl
@[simp] theorem setNZ_firstBoundary (v : Byte) (s : State) :
    (setNZ v s).firstBoundary = s.firstBoundary := rfl
@[simp] theorem setNZ_schedule (v : Byte) (s : State) : (setNZ v s).schedule = s.schedule := rfl
@[simp] theorem setNZ_draws (v : Byte) (s : State) : (setNZ v s).draws = s.draws := rfl
@[simp] theorem setNZ_cycles (v : Byte) (s : State) : (setNZ v s).cycles = s.cycles := rfl
@[simp] theorem setNZ_tick (v : Byte) (s : State) : (setNZ v s).tick = s.tick := rfl

/-! ### writing C -/

@[simp] theorem setC_params (c : Bool) (s : State) : (setC c s).params = s.params := rfl
@[simp] theorem setC_a (c : Bool) (s : State) : (setC c s).a = s.a := rfl
@[simp] theorem setC_x (c : Bool) (s : State) : (setC c s).x = s.x := rfl
@[simp] theorem setC_y (c : Bool) (s : State) : (setC c s).y = s.y := rfl
@[simp] theorem setC_sp (c : Bool) (s : State) : (setC c s).sp = s.sp := rfl
@[simp] theorem setC_pc (c : Bool) (s : State) : (setC c s).pc = s.pc := rfl
@[simp] theorem setC_flagN (c : Bool) (s : State) : (setC c s).flagN = s.flagN := rfl
@[simp] theorem setC_flagV (c : Bool) (s : State) : (setC c s).flagV = s.flagV := rfl
@[simp] theorem setC_flagD (c : Bool) (s : State) : (setC c s).flagD = s.flagD := rfl
@[simp] theorem setC_flagI (c : Bool) (s : State) : (setC c s).flagI = s.flagI := rfl
@[simp] theorem setC_flagZ (c : Bool) (s : State) : (setC c s).flagZ = s.flagZ := rfl
@[simp] theorem setC_flagC (c : Bool) (s : State) : (setC c s).flagC = c := rfl
@[simp] theorem setC_flagB (c : Bool) (s : State) : (setC c s).flagB = s.flagB := rfl
@[simp] theorem setC_nmiPending (c : Bool) (s : State) : (setC c s).nmiPending = s.nmiPending := rfl
@[simp] theorem setC_penalty (c : Bool) (s : State) : (setC c s).penalty = s.penalty := rfl
@[simp] theorem setC_bus (c : Bool) (s : State) : (setC c s).bus = s.bus := rfl
@[simp] theorem setC_run (c : Bool) (s : State) : (setC c s).run = s.run := rfl
@[simp] theorem setC_stopReason (c : Bool) (s : State) : (setC c s).stopReason = s.stopReason := rfl
@[simp] theorem setC_breakpoints (c : Bool) (s : State) :
    (setC c s).breakpoints = s.breakpoints := rfl
@[simp] theorem setC_brkHalt (c : Bool) (s : State) : (setC c s).brkHalt = s.brkHalt := rfl
@[simp] theorem setC_resetRequest (c : Bool) (s : State) :
    (setC c s).resetRequest = s.resetRequest := rfl
@[simp] theorem setC_pauseRequest (c : Bool) (s : State) :
    (setC c s).pauseRequest = s.pauseRequest := rfl
@[simp] theorem setC_singleStep (c : Bool) (s : State) : (setC c s).singleStep = s.singleStep := rfl
@[simp] theorem setC_firstBoundary (c : Bool) (s : State) :
    (setC c s).firstBoundary = s.firstBoundary := rfl
@[simp] theorem setC_schedule (c : Bool) (s : State) : (setC c s).schedule = s.schedule := rfl
@[simp] theorem setC_draws (c : Bool) (s : State) : (setC c s).draws = s.draws := rfl
@[simp] theorem setC_cycles (c : Bool) (s : State) : (setC c s).cycles = s.cycles := rfl
@[simp] theorem setC_tick (c : Bool) (s : State) : (setC c s).tick = s.tick := rfl

/-! ### Unpack -/

@[simp] theorem unpack_params (v : Byte) (s : State) : (unpack v s).params = s.params := rfl
@[simp] theorem unpack_a (v : Byte) (s : State) : (unpack v s).a = s.a := rfl
@[simp] theorem unpack_x (v : Byte) (s : State) : (unpack v s).x = s.x := rfl
@[simp] theorem unpack_y (v : Byte) (s : State) : (unpack v s).y = s.y := rfl
@[simp] theorem unpack_sp (v : Byte) (s : State) : (unpack v s).sp = s.sp := rfl
@[simp] theorem unpack_pc (v : Byte) (s : State) : (unpack v s).pc = s.pc := rfl
@[simp] theorem unpack_flagN (v : Byte) (s : State) : (unpack v s).flagN = v.getLsbD 7 := rfl
@[simp] theorem unpack_flagV (v : Byte) (s : State) : (unpack v s).flagV = v.getLsbD 6 := rfl
@[simp] theorem unpack_flagD (v : Byte) (s : State) : (unpack v s).flagD = v.getLsbD 3 := rfl
@[simp] theorem unpack_flagI (v : Byte) (s : State) : (unpack v s).flagI = v.getLsbD 2 := rfl
@[simp] theorem unpack_flagZ (v : Byte) (s : State) : (unpack v s).flagZ = v.getLsbD 1 := rfl
@[simp] theorem unpack_flagC (v : Byte) (s : State) : (unpack v s).flagC = v.getLsbD 0 := rfl
@[simp] theorem unpack_flagB (v : Byte) (s : State) : (unpack v s).flagB = s.flagB := rfl
@[simp] theorem unpack_nmiPending (v : Byte) (s : State) :
    (unpack v s).nmiPending = s.nmiPending := rfl
@[simp] theorem unpack_penalty (v : Byte) (s : State) : (unpack v s).penalty = s.penalty := rfl
@[simp] theorem unpack_bus (v : Byte) (s : State) : (unpack v s).bus = s.bus := rfl
@[simp] theorem unpack_run (v : Byte) (s : State) : (unpack v s).run = s.run := rfl
@[simp] theorem unpack_stopReason (v : Byte) (s : State) :
    (unpack v s).stopReason = s.stopReason := rfl
@[simp] theorem unpack_breakpoints (v : Byte) (s : State) :
    (unpack v s).breakpoints = s.breakpoints := rfl
@[simp] theorem unpack_brkHalt (v : Byte) (s : State) : (unpack v s).brkHalt = s.brkHalt := rfl
@[simp] theorem unpack_resetRequest (v : Byte) (s : State) :
    (unpack v s).resetRequest = s.resetRequest := rfl
@[simp] theorem unpack_pauseRequest (v : Byte) (s : State) :
    (unpack v s).pauseRequest = s.pauseRequest := rfl
@[simp] theorem unpack_singleStep (v : Byte) (s : State) :
    (unpack v s).singleStep = s.singleStep := rfl
@[simp] theorem unpack_firstBoundary (v : Byte) (s : State) :
    (unpack v s).firstBoundary = s.firstBoundary := rfl
@[simp] theorem unpack_schedule (v : Byte) (s : State) : (unpack v s).schedule = s.schedule := rfl
@[simp] theorem unpack_draws (v : Byte) (s : State) : (unpack v s).draws = s.draws := rfl
@[simp] theorem unpack_cycles (v : Byte) (s : State) : (unpack v s).cycles = s.cycles := rfl
@[simp] theorem unpack_tick (v : Byte) (s : State) : (unpack v s).tick = s.tick := rfl

/-! ### the cycle charges -/

@[simp] theorem charge_params (n : Nat) (s : State) : (charge n s).params = s.params := rfl
@[simp] theorem charge_a (n : Nat) (s : State) : (charge n s).a = s.a := rfl
@[simp] theorem charge_x (n : Nat) (s : State) : (charge n s).x = s.x := rfl
@[simp] theorem charge_y (n : Nat) (s : State) : (charge n s).y = s.y := rfl
@[simp] theorem charge_sp (n : Nat) (s : State) : (charge n s).sp = s.sp := rfl
@[simp] theorem charge_pc (n : Nat) (s : State) : (charge n s).pc = s.pc := rfl
@[simp] theorem charge_flagN (n : Nat) (s : State) : (charge n s).flagN = s.flagN := rfl
@[simp] theorem charge_flagV (n : Nat) (s : State) : (charge n s).flagV = s.flagV := rfl
@[simp] theorem charge_flagD (n : Nat) (s : State) : (charge n s).flagD = s.flagD := rfl
@[simp] theorem charge_flagI (n : Nat) (s : State) : (charge n s).flagI = s.flagI := rfl
@[simp] theorem charge_flagZ (n : Nat) (s : State) : (charge n s).flagZ = s.flagZ := rfl
@[simp] theorem charge_flagC (n : Nat) (s : State) : (charge n s).flagC = s.flagC := rfl
@[simp] theorem charge_flagB (n : Nat) (s : State) : (charge n s).flagB = s.flagB := rfl
@[simp] theorem charge_nmiPending (n : Nat) (s : State) :
    (charge n s).nmiPending = s.nmiPending := rfl
@[simp] theorem charge_penalty (n : Nat) (s : State) : (charge n s).penalty = s.penalty := rfl
@[simp] theorem charge_bus (n : Nat) (s : State) : (charge n s).bus = s.bus := rfl
@[simp] theorem charge_run (n : Nat) (s : State) : (charge n s).run = s.run := rfl
@[simp] theorem charge_stopReason (n : Nat) (s : State) :
    (charge n s).stopReason = s.stopReason := rfl
@[simp] theorem charge_breakpoints (n : Nat) (s : State) :
    (charge n s).breakpoints = s.breakpoints := rfl
@[simp] theorem charge_brkHalt (n : Nat) (s : State) : (charge n s).brkHalt = s.brkHalt := rfl
@[simp] theorem charge_resetRequest (n : Nat) (s : State) :
    (charge n s).resetRequest = s.resetRequest := rfl
@[simp] theorem charge_pauseRequest (n : Nat) (s : State) :
    (charge n s).pauseRequest = s.pauseRequest := rfl
@[simp] theorem charge_singleStep (n : Nat) (s : State) :
    (charge n s).singleStep = s.singleStep := rfl
@[simp] theorem charge_firstBoundary (n : Nat) (s : State) :
    (charge n s).firstBoundary = s.firstBoundary := rfl
@[simp] theorem charge_schedule (n : Nat) (s : State) : (charge n s).schedule = s.schedule := rfl
@[simp] theorem charge_draws (n : Nat) (s : State) : (charge n s).draws = s.draws := rfl
@[simp] theorem charge_cycles (n : Nat) (s : State) : (charge n s).cycles = n := rfl
@[simp] theorem charge_tick (n : Nat) (s : State) : (charge n s).tick = s.tick := rfl

@[simp] theorem chargeCross_params (n : Nat) (s : State) :
    (chargeCross n s).params = s.params := rfl
@[simp] theorem chargeCross_a (n : Nat) (s : State) : (chargeCross n s).a = s.a := rfl
@[simp] theorem chargeCross_x (n : Nat) (s : State) : (chargeCross n s).x = s.x := rfl
@[simp] theorem chargeCross_y (n : Nat) (s : State) : (chargeCross n s).y = s.y := rfl
@[simp] theorem chargeCross_sp (n : Nat) (s : State) : (chargeCross n s).sp = s.sp := rfl
@[simp] theorem chargeCross_pc (n : Nat) (s : State) : (chargeCross n s).pc = s.pc := rfl
@[simp] theorem chargeCross_flagN (n : Nat) (s : State) : (chargeCross n s).flagN = s.flagN := rfl
@[simp] theorem chargeCross_flagV (n : Nat) (s : State) : (chargeCross n s).flagV = s.flagV := rfl
@[simp] theorem chargeCross_flagD (n : Nat) (s : State) : (chargeCross n s).flagD = s.flagD := rfl
@[simp] theorem chargeCross_flagI (n : Nat) (s : State) : (chargeCross n s).flagI = s.flagI := rfl
@[simp] theorem chargeCross_flagZ (n : Nat) (s : State) : (chargeCross n s).flagZ = s.flagZ := rfl
@[simp] theorem chargeCross_flagC (n : Nat) (s : State) : (chargeCross n s).flagC = s.flagC := rfl
@[simp] theorem chargeCross_flagB (n : Nat) (s : State) : (chargeCross n s).flagB = s.flagB := rfl
@[simp] theorem chargeCross_nmiPending (n : Nat) (s : State) :
    (chargeCross n s).nmiPending = s.nmiPending := rfl
@[simp] theorem chargeCross_penalty (n : Nat) (s : State) :
    (chargeCross n s).penalty = s.penalty := rfl
@[simp] theorem chargeCross_bus (n : Nat) (s : State) : (chargeCross n s).bus = s.bus := rfl
@[simp] theorem chargeCross_run (n : Nat) (s : State) : (chargeCross n s).run = s.run := rfl
@[simp] theorem chargeCross_stopReason (n : Nat) (s : State) :
    (chargeCross n s).stopReason = s.stopReason := rfl
@[simp] theorem chargeCross_breakpoints (n : Nat) (s : State) :
    (chargeCross n s).breakpoints = s.breakpoints := rfl
@[simp] theorem chargeCross_brkHalt (n : Nat) (s : State) :
    (chargeCross n s).brkHalt = s.brkHalt := rfl
@[simp] theorem chargeCross_resetRequest (n : Nat) (s : State) :
    (chargeCross n s).resetRequest = s.resetRequest := rfl
@[simp] theorem chargeCross_pauseRequest (n : Nat) (s : State) :
    (chargeCross n s).pauseRequest = s.pauseRequest := rfl
@[simp] theorem chargeCross_singleStep (n : Nat) (s : State) :
    (chargeCross n s).singleStep = s.singleStep := rfl
@[simp] theorem chargeCross_firstBoundary (n : Nat) (s : State) :
    (chargeCross n s).firstBoundary = s.firstBoundary := rfl
@[simp] theorem chargeCross_schedule (n : Nat) (s : State) :
    (chargeCross n s).schedule = s.schedule := rfl
@[simp] theorem chargeCross_draws (n : Nat) (s : State) : (chargeCross n s).draws = s.draws := rfl
@[simp] theorem chargeCross_cycles (n : Nat) (s : State) :
    (chargeCross n s).cycles = n + s.penalty.toNat := rfl
@[simp] theorem chargeCross_tick (n : Nat) (s : State) : (chargeCross n s).tick = s.tick := rfl

@[simp] theorem chargeDecimal_params (n : Nat) (s : State) :
    (chargeDecimal n s).params = s.params := rfl
@[simp] theorem chargeDecimal_a (n : Nat) (s : State) : (chargeDecimal n s).a = s.a := rfl
@[simp] theorem chargeDecimal_x (n : Nat) (s : State) : (chargeDecimal n s).x = s.x := rfl
@[simp] theorem chargeDecimal_y (n : Nat) (s : State) : (chargeDecimal n s).y = s.y := rfl
@[simp] theorem chargeDecimal_sp (n : Nat) (s : State) : (chargeDecimal n s).sp = s.sp := rfl
@[simp] theorem chargeDecimal_pc (n : Nat) (s : State) : (chargeDecimal n s).pc = s.pc := rfl
@[simp] theorem chargeDecimal_flagN (n : Nat) (s : State) :
    (chargeDecimal n s).flagN = s.flagN := rfl
@[simp] theorem chargeDecimal_flagV (n : Nat) (s : State) :
    (chargeDecimal n s).flagV = s.flagV := rfl
@[simp] theorem chargeDecimal_flagD (n : Nat) (s : State) :
    (chargeDecimal n s).flagD = s.flagD := rfl
@[simp] theorem chargeDecimal_flagI (n : Nat) (s : State) :
    (chargeDecimal n s).flagI = s.flagI := rfl
@[simp] theorem chargeDecimal_flagZ (n : Nat) (s : State) :
    (chargeDecimal n s).flagZ = s.flagZ := rfl
@[simp] theorem chargeDecimal_flagC (n : Nat) (s : State) :
    (chargeDecimal n s).flagC = s.flagC := rfl
@[simp] theorem chargeDecimal_flagB (n : Nat) (s : State) :
    (chargeDecimal n s).flagB = s.flagB := rfl
@[simp] theorem chargeDecimal_nmiPending (n : Nat) (s : State) :
    (chargeDecimal n s).nmiPending = s.nmiPending := rfl
@[simp] theorem chargeDecimal_penalty (n : Nat) (s : State) :
    (chargeDecimal n s).penalty = s.penalty := rfl
@[simp] theorem chargeDecimal_bus (n : Nat) (s : State) : (chargeDecimal n s).bus = s.bus := rfl
@[simp] theorem chargeDecimal_run (n : Nat) (s : State) : (chargeDecimal n s).run = s.run := rfl
@[simp] theorem chargeDecimal_stopReason (n : Nat) (s : State) :
    (chargeDecimal n s).stopReason = s.stopReason := rfl
@[simp] theorem chargeDecimal_breakpoints (n : Nat) (s : State) :
    (chargeDecimal n s).breakpoints = s.breakpoints := rfl
@[simp] theorem chargeDecimal_brkHalt (n : Nat) (s : State) :
    (chargeDecimal n s).brkHalt = s.brkHalt := rfl
@[simp] theorem chargeDecimal_resetRequest (n : Nat) (s : State) :
    (chargeDecimal n s).resetRequest = s.resetRequest := rfl
@[simp] theorem chargeDecimal_pauseRequest (n : Nat) (s : State) :
    (chargeDecimal n s).pauseRequest = s.pauseRequest := rfl
@[simp] theorem chargeDecimal_singleStep (n : Nat) (s : State) :
    (chargeDecimal n s).singleStep = s.singleStep := rfl
@[simp] theorem chargeDecimal_firstBoundary (n : Nat) (s : State) :
    (chargeDecimal n s).firstBoundary = s.firstBoundary := rfl
@[simp] theorem chargeDecimal_schedule (n : Nat) (s : State) :
    (chargeDecimal n s).schedule = s.schedule := rfl
@[simp] theorem chargeDecimal_draws (n : Nat) (s : State) :
    (chargeDecimal n s).draws = s.draws := rfl
@[simp] theorem chargeDecimal_cycles (n : Nat) (s : State) :
    (chargeDecimal n s).cycles = n + s.flagD.toNat := rfl
@[simp] theorem chargeDecimal_tick (n : Nat) (s : State) : (chargeDecimal n s).tick = s.tick := rfl

@[simp] theorem chargeCrossDecimal_params (n : Nat) (s : State) :
    (chargeCrossDecimal n s).params = s.params := rfl
@[simp] theorem chargeCrossDecimal_a (n : Nat) (s : State) : (chargeCrossDecimal n s).a = s.a := rfl
@[simp] theorem chargeCrossDecimal_x (n : Nat) (s : State) : (chargeCrossDecimal n s).x = s.x := rfl
@[simp] theorem chargeCrossDecimal_y (n : Nat) (s : State) : (chargeCrossDecimal n s).y = s.y := rfl
@[simp] theorem chargeCrossDecimal_sp (n : Nat) (s : State) :
    (chargeCrossDecimal n s).sp = s.sp := rfl
@[simp] theorem chargeCrossDecimal_pc (n : Nat) (s : State) :
    (chargeCrossDecimal n s).pc = s.pc := rfl
@[simp] theorem chargeCrossDecimal_flagN (n : Nat) (s : State) :
    (chargeCrossDecimal n s).flagN = s.flagN := rfl
@[simp] theorem chargeCrossDecimal_flagV (n : Nat) (s : State) :
    (chargeCrossDecimal n s).flagV = s.flagV := rfl
@[simp] theorem chargeCrossDecimal_flagD (n : Nat) (s : State) :
    (chargeCrossDecimal n s).flagD = s.flagD := rfl
@[simp] theorem chargeCrossDecimal_flagI (n : Nat) (s : State) :
    (chargeCrossDecimal n s).flagI = s.flagI := rfl
@[simp] theorem chargeCrossDecimal_flagZ (n : Nat) (s : State) :
    (chargeCrossDecimal n s).flagZ = s.flagZ := rfl
@[simp] theorem chargeCrossDecimal_flagC (n : Nat) (s : State) :
    (chargeCrossDecimal n s).flagC = s.flagC := rfl
@[simp] theorem chargeCrossDecimal_flagB (n : Nat) (s : State) :
    (chargeCrossDecimal n s).flagB = s.flagB := rfl
@[simp] theorem chargeCrossDecimal_nmiPending (n : Nat) (s : State) :
    (chargeCrossDecimal n s).nmiPending = s.nmiPending := rfl
@[simp] theorem chargeCrossDecimal_penalty (n : Nat) (s : State) :
    (chargeCrossDecimal n s).penalty = s.penalty := rfl
@[simp] theorem chargeCrossDecimal_bus (n : Nat) (s : State) :
    (chargeCrossDecimal n s).bus = s.bus := rfl
@[simp] theorem chargeCrossDecimal_run (n : Nat) (s : State) :
    (chargeCrossDecimal n s).run = s.run := rfl
@[simp] theorem chargeCrossDecimal_stopReason (n : Nat) (s : State) :
    (chargeCrossDecimal n s).stopReason = s.stopReason := rfl
@[simp] theorem chargeCrossDecimal_breakpoints (n : Nat) (s : State) :
    (chargeCrossDecimal n s).breakpoints = s.breakpoints := rfl
@[simp] theorem chargeCrossDecimal_brkHalt (n : Nat) (s : State) :
    (chargeCrossDecimal n s).brkHalt = s.brkHalt := rfl
@[simp] theorem chargeCrossDecimal_resetRequest (n : Nat) (s : State) :
    (chargeCrossDecimal n s).resetRequest = s.resetRequest := rfl
@[simp] theorem chargeCrossDecimal_pauseRequest (n : Nat) (s : State) :
    (chargeCrossDecimal n s).pauseRequest = s.pauseRequest := rfl
@[simp] theorem chargeCrossDecimal_singleStep (n : Nat) (s : State) :
    (chargeCrossDecimal n s).singleStep = s.singleStep := rfl
@[simp] theorem chargeCrossDecimal_firstBoundary (n : Nat) (s : State) :
    (chargeCrossDecimal n s).firstBoundary = s.firstBoundary := rfl
@[simp] theorem chargeCrossDecimal_schedule (n : Nat) (s : State) :
    (chargeCrossDecimal n s).schedule = s.schedule := rfl
@[simp] theorem chargeCrossDecimal_draws (n : Nat) (s : State) :
    (chargeCrossDecimal n s).draws = s.draws := rfl
@[simp] theorem chargeCrossDecimal_cycles (n : Nat) (s : State) :
    (chargeCrossDecimal n s).cycles = n + s.penalty.toNat + s.flagD.toNat := rfl
@[simp] theorem chargeCrossDecimal_tick (n : Nat) (s : State) :
    (chargeCrossDecimal n s).tick = s.tick := rfl

/-! ### halting -/

@[simp] theorem halt_params (r : StopReason) (s : State) : (halt r s).params = s.params := rfl
@[simp] theorem halt_a (r : StopReason) (s : State) : (halt r s).a = s.a := rfl
@[simp] theorem halt_x (r : StopReason) (s : State) : (halt r s).x = s.x := rfl
@[simp] theorem halt_y (r : StopReason) (s : State) : (halt r s).y = s.y := rfl
@[simp] theorem halt_sp (r : StopReason) (s : State) : (halt r s).sp = s.sp := rfl
@[simp] theorem halt_pc (r : StopReason) (s : State) : (halt r s).pc = s.pc := rfl
@[simp] theorem halt_flagN (r : StopReason) (s : State) : (halt r s).flagN = s.flagN := rfl
@[simp] theorem halt_flagV (r : StopReason) (s : State) : (halt r s).flagV = s.flagV := rfl
@[simp] theorem halt_flagD (r : StopReason) (s : State) : (halt r s).flagD = s.flagD := rfl
@[simp] theorem halt_flagI (r : StopReason) (s : State) : (halt r s).flagI = s.flagI := rfl
@[simp] theorem halt_flagZ (r : StopReason) (s : State) : (halt r s).flagZ = s.flagZ := rfl
@[simp] theorem halt_flagC (r : StopReason) (s : State) : (halt r s).flagC = s.flagC := rfl
@[simp] theorem halt_flagB (r : StopReason) (s : State) : (halt r s).flagB = s.flagB := rfl
@[simp] theorem halt_nmiPending (r : StopReason) (s : State) :
    (halt r s).nmiPending = s.nmiPending := rfl
@[simp] theorem halt_penalty (r : StopReason) (s : State) : (halt r s).penalty = s.penalty := rfl
@[simp] theorem halt_bus (r : StopReason) (s : State) : (halt r s).bus = s.bus := rfl
@[simp] theorem halt_run (r : StopReason) (s : State) : (halt r s).run = .stopped := rfl
@[simp] theorem halt_stopReason (r : StopReason) (s : State) : (halt r s).stopReason = r := rfl
@[simp] theorem halt_breakpoints (r : StopReason) (s : State) :
    (halt r s).breakpoints = s.breakpoints := rfl
@[simp] theorem halt_brkHalt (r : StopReason) (s : State) : (halt r s).brkHalt = s.brkHalt := rfl
@[simp] theorem halt_resetRequest (r : StopReason) (s : State) :
    (halt r s).resetRequest = s.resetRequest := rfl
@[simp] theorem halt_pauseRequest (r : StopReason) (s : State) :
    (halt r s).pauseRequest = s.pauseRequest := rfl
@[simp] theorem halt_singleStep (r : StopReason) (s : State) :
    (halt r s).singleStep = s.singleStep := rfl
@[simp] theorem halt_firstBoundary (r : StopReason) (s : State) :
    (halt r s).firstBoundary = s.firstBoundary := rfl
@[simp] theorem halt_schedule (r : StopReason) (s : State) : (halt r s).schedule = s.schedule := rfl
@[simp] theorem halt_draws (r : StopReason) (s : State) : (halt r s).draws = s.draws := rfl
@[simp] theorem halt_cycles (r : StopReason) (s : State) : (halt r s).cycles = s.cycles := rfl
@[simp] theorem halt_tick (r : StopReason) (s : State) : (halt r s).tick = s.tick := rfl

/-! ### writing PC -/

@[simp] theorem setPc_params (p : Word) (s : State) : (setPc p s).params = s.params := rfl
@[simp] theorem setPc_a (p : Word) (s : State) : (setPc p s).a = s.a := rfl
@[simp] theorem setPc_x (p : Word) (s : State) : (setPc p s).x = s.x := rfl
@[simp] theorem setPc_y (p : Word) (s : State) : (setPc p s).y = s.y := rfl
@[simp] theorem setPc_sp (p : Word) (s : State) : (setPc p s).sp = s.sp := rfl
@[simp] theorem setPc_pc (p : Word) (s : State) : (setPc p s).pc = p := rfl
@[simp] theorem setPc_flagN (p : Word) (s : State) : (setPc p s).flagN = s.flagN := rfl
@[simp] theorem setPc_flagV (p : Word) (s : State) : (setPc p s).flagV = s.flagV := rfl
@[simp] theorem setPc_flagD (p : Word) (s : State) : (setPc p s).flagD = s.flagD := rfl
@[simp] theorem setPc_flagI (p : Word) (s : State) : (setPc p s).flagI = s.flagI := rfl
@[simp] theorem setPc_flagZ (p : Word) (s : State) : (setPc p s).flagZ = s.flagZ := rfl
@[simp] theorem setPc_flagC (p : Word) (s : State) : (setPc p s).flagC = s.flagC := rfl
@[simp] theorem setPc_flagB (p : Word) (s : State) : (setPc p s).flagB = s.flagB := rfl
@[simp] theorem setPc_nmiPending (p : Word) (s : State) :
    (setPc p s).nmiPending = s.nmiPending := rfl
@[simp] theorem setPc_penalty (p : Word) (s : State) : (setPc p s).penalty = s.penalty := rfl
@[simp] theorem setPc_bus (p : Word) (s : State) : (setPc p s).bus = s.bus := rfl
@[simp] theorem setPc_run (p : Word) (s : State) : (setPc p s).run = s.run := rfl
@[simp] theorem setPc_stopReason (p : Word) (s : State) :
    (setPc p s).stopReason = s.stopReason := rfl
@[simp] theorem setPc_breakpoints (p : Word) (s : State) :
    (setPc p s).breakpoints = s.breakpoints := rfl
@[simp] theorem setPc_brkHalt (p : Word) (s : State) : (setPc p s).brkHalt = s.brkHalt := rfl
@[simp] theorem setPc_resetRequest (p : Word) (s : State) :
    (setPc p s).resetRequest = s.resetRequest := rfl
@[simp] theorem setPc_pauseRequest (p : Word) (s : State) :
    (setPc p s).pauseRequest = s.pauseRequest := rfl
@[simp] theorem setPc_singleStep (p : Word) (s : State) :
    (setPc p s).singleStep = s.singleStep := rfl
@[simp] theorem setPc_firstBoundary (p : Word) (s : State) :
    (setPc p s).firstBoundary = s.firstBoundary := rfl
@[simp] theorem setPc_schedule (p : Word) (s : State) : (setPc p s).schedule = s.schedule := rfl
@[simp] theorem setPc_draws (p : Word) (s : State) : (setPc p s).draws = s.draws := rfl
@[simp] theorem setPc_cycles (p : Word) (s : State) : (setPc p s).cycles = s.cycles := rfl
@[simp] theorem setPc_tick (p : Word) (s : State) : (setPc p s).tick = s.tick := rfl

/-! ### a bus read: no register changes -/

@[simp] theorem memRead_params (p : Word) (s : State) : (memRead p s).2.params = s.params := rfl
@[simp] theorem memRead_a (p : Word) (s : State) : (memRead p s).2.a = s.a := rfl
@[simp] theorem memRead_x (p : Word) (s : State) : (memRead p s).2.x = s.x := rfl
@[simp] theorem memRead_y (p : Word) (s : State) : (memRead p s).2.y = s.y := rfl
@[simp] theorem memRead_sp (p : Word) (s : State) : (memRead p s).2.sp = s.sp := rfl
@[simp] theorem memRead_pc (p : Word) (s : State) : (memRead p s).2.pc = s.pc := rfl
@[simp] theorem memRead_flagN (p : Word) (s : State) : (memRead p s).2.flagN = s.flagN := rfl
@[simp] theorem memRead_flagV (p : Word) (s : State) : (memRead p s).2.flagV = s.flagV := rfl
@[simp] theorem memRead_flagD (p : Word) (s : State) : (memRead p s).2.flagD = s.flagD := rfl
@[simp] theorem memRead_flagI (p : Word) (s : State) : (memRead p s).2.flagI = s.flagI := rfl
@[simp] theorem memRead_flagZ (p : Word) (s : State) : (memRead p s).2.flagZ = s.flagZ := rfl
@[simp] theorem memRead_flagC (p : Word) (s : State) : (memRead p s).2.flagC = s.flagC := rfl
@[simp] theorem memRead_flagB (p : Word) (s : State) : (memRead p s).2.flagB = s.flagB := rfl
@[simp] theorem memRead_nmiPending (p : Word) (s : State) :
    (memRead p s).2.nmiPending = s.nmiPending := rfl
@[simp] theorem memRead_penalty (p : Word) (s : State) : (memRead p s).2.penalty = s.penalty := rfl
@[simp] theorem memRead_bus (p : Word) (s : State) : (memRead p s).2.bus = (s.bus.read p).2 := rfl
@[simp] theorem memRead_run (p : Word) (s : State) : (memRead p s).2.run = s.run := rfl
@[simp] theorem memRead_stopReason (p : Word) (s : State) :
    (memRead p s).2.stopReason = s.stopReason := rfl
@[simp] theorem memRead_breakpoints (p : Word) (s : State) :
    (memRead p s).2.breakpoints = s.breakpoints := rfl
@[simp] theorem memRead_brkHalt (p : Word) (s : State) : (memRead p s).2.brkHalt = s.brkHalt := rfl
@[simp] theorem memRead_resetRequest (p : Word) (s : State) :
    (memRead p s).2.resetRequest = s.resetRequest := rfl
@[simp] theorem memRead_pauseRequest (p : Word) (s : State) :
    (memRead p s).2.pauseRequest = s.pauseRequest := rfl
@[simp] theorem memRead_singleStep (p : Word) (s : State) :
    (memRead p s).2.singleStep = s.singleStep := rfl
@[simp] theorem memRead_firstBoundary (p : Word) (s : State) :
    (memRead p s).2.firstBoundary = s.firstBoundary := rfl
@[simp] theorem memRead_schedule (p : Word) (s : State) :
    (memRead p s).2.schedule = s.schedule := rfl
@[simp] theorem memRead_draws (p : Word) (s : State) : (memRead p s).2.draws = s.draws := rfl
@[simp] theorem memRead_cycles (p : Word) (s : State) : (memRead p s).2.cycles = s.cycles := rfl
@[simp] theorem memRead_tick (p : Word) (s : State) : (memRead p s).2.tick = s.tick := rfl

/-! ### a bus write: no register changes -/

@[simp] theorem memWrite_params (p : Word) (v : Byte) (s : State) :
    (memWrite p v s).params = s.params := rfl
@[simp] theorem memWrite_a (p : Word) (v : Byte) (s : State) : (memWrite p v s).a = s.a := rfl
@[simp] theorem memWrite_x (p : Word) (v : Byte) (s : State) : (memWrite p v s).x = s.x := rfl
@[simp] theorem memWrite_y (p : Word) (v : Byte) (s : State) : (memWrite p v s).y = s.y := rfl
@[simp] theorem memWrite_sp (p : Word) (v : Byte) (s : State) : (memWrite p v s).sp = s.sp := rfl
@[simp] theorem memWrite_pc (p : Word) (v : Byte) (s : State) : (memWrite p v s).pc = s.pc := rfl
@[simp] theorem memWrite_flagN (p : Word) (v : Byte) (s : State) :
    (memWrite p v s).flagN = s.flagN := rfl
@[simp] theorem memWrite_flagV (p : Word) (v : Byte) (s : State) :
    (memWrite p v s).flagV = s.flagV := rfl
@[simp] theorem memWrite_flagD (p : Word) (v : Byte) (s : State) :
    (memWrite p v s).flagD = s.flagD := rfl
@[simp] theorem memWrite_flagI (p : Word) (v : Byte) (s : State) :
    (memWrite p v s).flagI = s.flagI := rfl
@[simp] theorem memWrite_flagZ (p : Word) (v : Byte) (s : State) :
    (memWrite p v s).flagZ = s.flagZ := rfl
@[simp] theorem memWrite_flagC (p : Word) (v : Byte) (s : State) :
    (memWrite p v s).flagC = s.flagC := rfl
@[simp] theorem memWrite_flagB (p : Word) (v : Byte) (s : State) :
    (memWrite p v s).flagB = s.flagB := rfl
@[simp] theorem memWrite_nmiPending (p : Word) (v : Byte) (s : State) :
    (memWrite p v s).nmiPending = s.nmiPending := rfl
@[simp] theorem memWrite_penalty (p : Word) (v : Byte) (s : State) :
    (memWrite p v s).penalty = s.penalty := rfl
@[simp] theorem memWrite_bus (p : Word) (v : Byte) (s : State) :
    (memWrite p v s).bus = s.bus.write p v := rfl
@[simp] theorem memWrite_run (p : Word) (v : Byte) (s : State) : (memWrite p v s).run = s.run := rfl
@[simp] theorem memWrite_stopReason (p : Word) (v : Byte) (s : State) :
    (memWrite p v s).stopReason = s.stopReason := rfl
@[simp] theorem memWrite_breakpoints (p : Word) (v : Byte) (s : State) :
    (memWrite p v s).breakpoints = s.breakpoints := rfl
@[simp] theorem memWrite_brkHalt (p : Word) (v : Byte) (s : State) :
    (memWrite p v s).brkHalt = s.brkHalt := rfl
@[simp] theorem memWrite_resetRequest (p : Word) (v : Byte) (s : State) :
    (memWrite p v s).resetRequest = s.resetRequest := rfl
@[simp] theorem memWrite_pauseRequest (p : Word) (v : Byte) (s : State) :
    (memWrite p v s).pauseRequest = s.pauseRequest := rfl
@[simp] theorem memWrite_singleStep (p : Word) (v : Byte) (s : State) :
    (memWrite p v s).singleStep = s.singleStep := rfl
@[simp] theorem memWrite_firstBoundary (p : Word) (v : Byte) (s : State) :
    (memWrite p v s).firstBoundary = s.firstBoundary := rfl
@[simp] theorem memWrite_schedule (p : Word) (v : Byte) (s : State) :
    (memWrite p v s).schedule = s.schedule := rfl
@[simp] theorem memWrite_draws (p : Word) (v : Byte) (s : State) :
    (memWrite p v s).draws = s.draws := rfl
@[simp] theorem memWrite_cycles (p : Word) (v : Byte) (s : State) :
    (memWrite p v s).cycles = s.cycles := rfl
@[simp] theorem memWrite_tick (p : Word) (v : Byte) (s : State) :
    (memWrite p v s).tick = s.tick := rfl

/-! ### reading a word -/

@[simp] theorem memReadWord_params (p : Word) (s : State) :
    (memReadWord p s).2.params = s.params := by simp [memReadWord]
@[simp] theorem memReadWord_a (p : Word) (s : State) :
    (memReadWord p s).2.a = s.a := by simp [memReadWord]
@[simp] theorem memReadWord_x (p : Word) (s : State) :
    (memReadWord p s).2.x = s.x := by simp [memReadWord]
@[simp] theorem memReadWord_y (p : Word) (s : State) :
    (memReadWord p s).2.y = s.y := by simp [memReadWord]
@[simp] theorem memReadWord_sp (p : Word) (s : State) :
    (memReadWord p s).2.sp = s.sp := by simp [memReadWord]
@[simp] theorem memReadWord_pc (p : Word) (s : State) :
    (memReadWord p s).2.pc = s.pc := by simp [memReadWord]
@[simp] theorem memReadWord_flagN (p : Word) (s : State) :
    (memReadWord p s).2.flagN = s.flagN := by simp [memReadWord]
@[simp] theorem memReadWord_flagV (p : Word) (s : State) :
    (memReadWord p s).2.flagV = s.flagV := by simp [memReadWord]
@[simp] theorem memReadWord_flagD (p : Word) (s : State) :
    (memReadWord p s).2.flagD = s.flagD := by simp [memReadWord]
@[simp] theorem memReadWord_flagI (p : Word) (s : State) :
    (memReadWord p s).2.flagI = s.flagI := by simp [memReadWord]
@[simp] theorem memReadWord_flagZ (p : Word) (s : State) :
    (memReadWord p s).2.flagZ = s.flagZ := by simp [memReadWord]
@[simp] theorem memReadWord_flagC (p : Word) (s : State) :
    (memReadWord p s).2.flagC = s.flagC := by simp [memReadWord]
@[simp] theorem memReadWord_flagB (p : Word) (s : State) :
    (memReadWord p s).2.flagB = s.flagB := by simp [memReadWord]
@[simp] theorem memReadWord_nmiPending (p : Word) (s : State) :
    (memReadWord p s).2.nmiPending = s.nmiPending := by simp [memReadWord]
@[simp] theorem memReadWord_penalty (p : Word) (s : State) :
    (memReadWord p s).2.penalty = s.penalty := by simp [memReadWord]
@[simp] theorem memReadWord_bus (p : Word) (s : State) :
    (memReadWord p s).2.bus = ((s.bus.read p).2.read (p + 1)).2 := by simp [memReadWord]
@[simp] theorem memReadWord_run (p : Word) (s : State) :
    (memReadWord p s).2.run = s.run := by simp [memReadWord]
@[simp] theorem memReadWord_stopReason (p : Word) (s : State) :
    (memReadWord p s).2.stopReason = s.stopReason := by simp [memReadWord]
@[simp] theorem memReadWord_breakpoints (p : Word) (s : State) :
    (memReadWord p s).2.breakpoints = s.breakpoints := by simp [memReadWord]
@[simp] theorem memReadWord_brkHalt (p : Word) (s : State) :
    (memReadWord p s).2.brkHalt = s.brkHalt := by simp [memReadWord]
@[simp] theorem memReadWord_resetRequest (p : Word) (s : State) :
    (memReadWord p s).2.resetRequest = s.resetRequest := by simp [memReadWord]
@[simp] theorem memReadWord_pauseRequest (p : Word) (s : State) :
    (memReadWord p s).2.pauseRequest = s.pauseRequest := by simp [memReadWord]
@[simp] theorem memReadWord_singleStep (p : Word) (s : State) :
    (memReadWord p s).2.singleStep = s.singleStep := by simp [memReadWord]
@[simp] theorem memReadWord_firstBoundary (p : Word) (s : State) :
    (memReadWord p s).2.firstBoundary = s.firstBoundary := by simp [memReadWord]
@[simp] theorem memReadWord_schedule (p : Word) (s : State) :
    (memReadWord p s).2.schedule = s.schedule := by simp [memReadWord]
@[simp] theorem memReadWord_draws (p : Word) (s : State) :
    (memReadWord p s).2.draws = s.draws := by simp [memReadWord]
@[simp] theorem memReadWord_cycles (p : Word) (s : State) :
    (memReadWord p s).2.cycles = s.cycles := by simp [memReadWord]
@[simp] theorem memReadWord_tick (p : Word) (s : State) :
    (memReadWord p s).2.tick = s.tick := by simp [memReadWord]

/-! ### reading a zero-page pointer -/

@[simp] theorem readZP16_params (z : Byte) (s : State) :
    (readZP16 z s).2.params = s.params := by simp [readZP16]
@[simp] theorem readZP16_a (z : Byte) (s : State) : (readZP16 z s).2.a = s.a := by simp [readZP16]
@[simp] theorem readZP16_x (z : Byte) (s : State) : (readZP16 z s).2.x = s.x := by simp [readZP16]
@[simp] theorem readZP16_y (z : Byte) (s : State) : (readZP16 z s).2.y = s.y := by simp [readZP16]
@[simp] theorem readZP16_sp (z : Byte) (s : State) :
    (readZP16 z s).2.sp = s.sp := by simp [readZP16]
@[simp] theorem readZP16_pc (z : Byte) (s : State) :
    (readZP16 z s).2.pc = s.pc := by simp [readZP16]
@[simp] theorem readZP16_flagN (z : Byte) (s : State) :
    (readZP16 z s).2.flagN = s.flagN := by simp [readZP16]
@[simp] theorem readZP16_flagV (z : Byte) (s : State) :
    (readZP16 z s).2.flagV = s.flagV := by simp [readZP16]
@[simp] theorem readZP16_flagD (z : Byte) (s : State) :
    (readZP16 z s).2.flagD = s.flagD := by simp [readZP16]
@[simp] theorem readZP16_flagI (z : Byte) (s : State) :
    (readZP16 z s).2.flagI = s.flagI := by simp [readZP16]
@[simp] theorem readZP16_flagZ (z : Byte) (s : State) :
    (readZP16 z s).2.flagZ = s.flagZ := by simp [readZP16]
@[simp] theorem readZP16_flagC (z : Byte) (s : State) :
    (readZP16 z s).2.flagC = s.flagC := by simp [readZP16]
@[simp] theorem readZP16_flagB (z : Byte) (s : State) :
    (readZP16 z s).2.flagB = s.flagB := by simp [readZP16]
@[simp] theorem readZP16_nmiPending (z : Byte) (s : State) :
    (readZP16 z s).2.nmiPending = s.nmiPending := by simp [readZP16]
@[simp] theorem readZP16_penalty (z : Byte) (s : State) :
    (readZP16 z s).2.penalty = s.penalty := by simp [readZP16]
@[simp] theorem readZP16_bus (z : Byte) (s : State) :
    (readZP16 z s).2.bus = ((s.bus.read (zeroPage z)).2.read (zeroPage (z + 1))).2 := by simp [readZP16]
@[simp] theorem readZP16_run (z : Byte) (s : State) :
    (readZP16 z s).2.run = s.run := by simp [readZP16]
@[simp] theorem readZP16_stopReason (z : Byte) (s : State) :
    (readZP16 z s).2.stopReason = s.stopReason := by simp [readZP16]
@[simp] theorem readZP16_breakpoints (z : Byte) (s : State) :
    (readZP16 z s).2.breakpoints = s.breakpoints := by simp [readZP16]
@[simp] theorem readZP16_brkHalt (z : Byte) (s : State) :
    (readZP16 z s).2.brkHalt = s.brkHalt := by simp [readZP16]
@[simp] theorem readZP16_resetRequest (z : Byte) (s : State) :
    (readZP16 z s).2.resetRequest = s.resetRequest := by simp [readZP16]
@[simp] theorem readZP16_pauseRequest (z : Byte) (s : State) :
    (readZP16 z s).2.pauseRequest = s.pauseRequest := by simp [readZP16]
@[simp] theorem readZP16_singleStep (z : Byte) (s : State) :
    (readZP16 z s).2.singleStep = s.singleStep := by simp [readZP16]
@[simp] theorem readZP16_firstBoundary (z : Byte) (s : State) :
    (readZP16 z s).2.firstBoundary = s.firstBoundary := by simp [readZP16]
@[simp] theorem readZP16_schedule (z : Byte) (s : State) :
    (readZP16 z s).2.schedule = s.schedule := by simp [readZP16]
@[simp] theorem readZP16_draws (z : Byte) (s : State) :
    (readZP16 z s).2.draws = s.draws := by simp [readZP16]
@[simp] theorem readZP16_cycles (z : Byte) (s : State) :
    (readZP16 z s).2.cycles = s.cycles := by simp [readZP16]
@[simp] theorem readZP16_tick (z : Byte) (s : State) :
    (readZP16 z s).2.tick = s.tick := by simp [readZP16]

/-! ### fetching a byte -/

@[simp] theorem fetch8_params (s : State) : (fetch8 s).2.params = s.params := rfl
@[simp] theorem fetch8_a (s : State) : (fetch8 s).2.a = s.a := rfl
@[simp] theorem fetch8_x (s : State) : (fetch8 s).2.x = s.x := rfl
@[simp] theorem fetch8_y (s : State) : (fetch8 s).2.y = s.y := rfl
@[simp] theorem fetch8_sp (s : State) : (fetch8 s).2.sp = s.sp := rfl
@[simp] theorem fetch8_pc (s : State) : (fetch8 s).2.pc = s.pc + 1 := rfl
@[simp] theorem fetch8_flagN (s : State) : (fetch8 s).2.flagN = s.flagN := rfl
@[simp] theorem fetch8_flagV (s : State) : (fetch8 s).2.flagV = s.flagV := rfl
@[simp] theorem fetch8_flagD (s : State) : (fetch8 s).2.flagD = s.flagD := rfl
@[simp] theorem fetch8_flagI (s : State) : (fetch8 s).2.flagI = s.flagI := rfl
@[simp] theorem fetch8_flagZ (s : State) : (fetch8 s).2.flagZ = s.flagZ := rfl
@[simp] theorem fetch8_flagC (s : State) : (fetch8 s).2.flagC = s.flagC := rfl
@[simp] theorem fetch8_flagB (s : State) : (fetch8 s).2.flagB = s.flagB := rfl
@[simp] theorem fetch8_nmiPending (s : State) : (fetch8 s).2.nmiPending = s.nmiPending := rfl
@[simp] theorem fetch8_penalty (s : State) : (fetch8 s).2.penalty = s.penalty := rfl
@[simp] theorem fetch8_bus (s : State) : (fetch8 s).2.bus = (s.bus.read s.pc).2 := rfl
@[simp] theorem fetch8_run (s : State) : (fetch8 s).2.run = s.run := rfl
@[simp] theorem fetch8_stopReason (s : State) : (fetch8 s).2.stopReason = s.stopReason := rfl
@[simp] theorem fetch8_breakpoints (s : State) : (fetch8 s).2.breakpoints = s.breakpoints := rfl
@[simp] theorem fetch8_brkHalt (s : State) : (fetch8 s).2.brkHalt = s.brkHalt := rfl
@[simp] theorem fetch8_resetRequest (s : State) : (fetch8 s).2.resetRequest = s.resetRequest := rfl
@[simp] theorem fetch8_pauseRequest (s : State) : (fetch8 s).2.pauseRequest = s.pauseRequest := rfl
@[simp] theorem fetch8_singleStep (s : State) : (fetch8 s).2.singleStep = s.singleStep := rfl
@[simp] theorem fetch8_firstBoundary (s : State) :
    (fetch8 s).2.firstBoundary = s.firstBoundary := rfl
@[simp] theorem fetch8_schedule (s : State) : (fetch8 s).2.schedule = s.schedule := rfl
@[simp] theorem fetch8_draws (s : State) : (fetch8 s).2.draws = s.draws := rfl
@[simp] theorem fetch8_cycles (s : State) : (fetch8 s).2.cycles = s.cycles := rfl
@[simp] theorem fetch8_tick (s : State) : (fetch8 s).2.tick = s.tick := rfl

/-! ### pushing -/

@[simp] theorem push_params (v : Byte) (s : State) : (push v s).params = s.params := rfl
@[simp] theorem push_a (v : Byte) (s : State) : (push v s).a = s.a := rfl
@[simp] theorem push_x (v : Byte) (s : State) : (push v s).x = s.x := rfl
@[simp] theorem push_y (v : Byte) (s : State) : (push v s).y = s.y := rfl
@[simp] theorem push_sp (v : Byte) (s : State) : (push v s).sp = s.sp - 1 := rfl
@[simp] theorem push_pc (v : Byte) (s : State) : (push v s).pc = s.pc := rfl
@[simp] theorem push_flagN (v : Byte) (s : State) : (push v s).flagN = s.flagN := rfl
@[simp] theorem push_flagV (v : Byte) (s : State) : (push v s).flagV = s.flagV := rfl
@[simp] theorem push_flagD (v : Byte) (s : State) : (push v s).flagD = s.flagD := rfl
@[simp] theorem push_flagI (v : Byte) (s : State) : (push v s).flagI = s.flagI := rfl
@[simp] theorem push_flagZ (v : Byte) (s : State) : (push v s).flagZ = s.flagZ := rfl
@[simp] theorem push_flagC (v : Byte) (s : State) : (push v s).flagC = s.flagC := rfl
@[simp] theorem push_flagB (v : Byte) (s : State) : (push v s).flagB = s.flagB := rfl
@[simp] theorem push_nmiPending (v : Byte) (s : State) : (push v s).nmiPending = s.nmiPending := rfl
@[simp] theorem push_penalty (v : Byte) (s : State) : (push v s).penalty = s.penalty := rfl
@[simp] theorem push_bus (v : Byte) (s : State) :
    (push v s).bus = s.bus.write (stackAddr s.sp) v := rfl
@[simp] theorem push_run (v : Byte) (s : State) : (push v s).run = s.run := rfl
@[simp] theorem push_stopReason (v : Byte) (s : State) : (push v s).stopReason = s.stopReason := rfl
@[simp] theorem push_breakpoints (v : Byte) (s : State) :
    (push v s).breakpoints = s.breakpoints := rfl
@[simp] theorem push_brkHalt (v : Byte) (s : State) : (push v s).brkHalt = s.brkHalt := rfl
@[simp] theorem push_resetRequest (v : Byte) (s : State) :
    (push v s).resetRequest = s.resetRequest := rfl
@[simp] theorem push_pauseRequest (v : Byte) (s : State) :
    (push v s).pauseRequest = s.pauseRequest := rfl
@[simp] theorem push_singleStep (v : Byte) (s : State) : (push v s).singleStep = s.singleStep := rfl
@[simp] theorem push_firstBoundary (v : Byte) (s : State) :
    (push v s).firstBoundary = s.firstBoundary := rfl
@[simp] theorem push_schedule (v : Byte) (s : State) : (push v s).schedule = s.schedule := rfl
@[simp] theorem push_draws (v : Byte) (s : State) : (push v s).draws = s.draws := rfl
@[simp] theorem push_cycles (v : Byte) (s : State) : (push v s).cycles = s.cycles := rfl
@[simp] theorem push_tick (v : Byte) (s : State) : (push v s).tick = s.tick := rfl

/-! ### pulling -/

@[simp] theorem pull_params (s : State) : (pull s).2.params = s.params := rfl
@[simp] theorem pull_a (s : State) : (pull s).2.a = s.a := rfl
@[simp] theorem pull_x (s : State) : (pull s).2.x = s.x := rfl
@[simp] theorem pull_y (s : State) : (pull s).2.y = s.y := rfl
@[simp] theorem pull_sp (s : State) : (pull s).2.sp = s.sp + 1 := rfl
@[simp] theorem pull_pc (s : State) : (pull s).2.pc = s.pc := rfl
@[simp] theorem pull_flagN (s : State) : (pull s).2.flagN = s.flagN := rfl
@[simp] theorem pull_flagV (s : State) : (pull s).2.flagV = s.flagV := rfl
@[simp] theorem pull_flagD (s : State) : (pull s).2.flagD = s.flagD := rfl
@[simp] theorem pull_flagI (s : State) : (pull s).2.flagI = s.flagI := rfl
@[simp] theorem pull_flagZ (s : State) : (pull s).2.flagZ = s.flagZ := rfl
@[simp] theorem pull_flagC (s : State) : (pull s).2.flagC = s.flagC := rfl
@[simp] theorem pull_flagB (s : State) : (pull s).2.flagB = s.flagB := rfl
@[simp] theorem pull_nmiPending (s : State) : (pull s).2.nmiPending = s.nmiPending := rfl
@[simp] theorem pull_penalty (s : State) : (pull s).2.penalty = s.penalty := rfl
@[simp] theorem pull_bus (s : State) : (pull s).2.bus = (s.bus.read (stackAddr (s.sp + 1))).2 := rfl
@[simp] theorem pull_run (s : State) : (pull s).2.run = s.run := rfl
@[simp] theorem pull_stopReason (s : State) : (pull s).2.stopReason = s.stopReason := rfl
@[simp] theorem pull_breakpoints (s : State) : (pull s).2.breakpoints = s.breakpoints := rfl
@[simp] theorem pull_brkHalt (s : State) : (pull s).2.brkHalt = s.brkHalt := rfl
@[simp] theorem pull_resetRequest (s : State) : (pull s).2.resetRequest = s.resetRequest := rfl
@[simp] theorem pull_pauseRequest (s : State) : (pull s).2.pauseRequest = s.pauseRequest := rfl
@[simp] theorem pull_singleStep (s : State) : (pull s).2.singleStep = s.singleStep := rfl
@[simp] theorem pull_firstBoundary (s : State) : (pull s).2.firstBoundary = s.firstBoundary := rfl
@[simp] theorem pull_schedule (s : State) : (pull s).2.schedule = s.schedule := rfl
@[simp] theorem pull_draws (s : State) : (pull s).2.draws = s.draws := rfl
@[simp] theorem pull_cycles (s : State) : (pull s).2.cycles = s.cycles := rfl
@[simp] theorem pull_tick (s : State) : (pull s).2.tick = s.tick := rfl

/-! ### pushing a word -/

@[simp] theorem pushWord_params (w : Word) (s : State) :
    (pushWord w s).params = s.params := by simp [pushWord]
@[simp] theorem pushWord_a (w : Word) (s : State) : (pushWord w s).a = s.a := by simp [pushWord]
@[simp] theorem pushWord_x (w : Word) (s : State) : (pushWord w s).x = s.x := by simp [pushWord]
@[simp] theorem pushWord_y (w : Word) (s : State) : (pushWord w s).y = s.y := by simp [pushWord]
@[simp] theorem pushWord_sp (w : Word) (s : State) :
    (pushWord w s).sp = s.sp - 1 - 1 := by simp [pushWord]
@[simp] theorem pushWord_pc (w : Word) (s : State) : (pushWord w s).pc = s.pc := by simp [pushWord]
@[simp] theorem pushWord_flagN (w : Word) (s : State) :
    (pushWord w s).flagN = s.flagN := by simp [pushWord]
@[simp] theorem pushWord_flagV (w : Word) (s : State) :
    (pushWord w s).flagV = s.flagV := by simp [pushWord]
@[simp] theorem pushWord_flagD (w : Word) (s : State) :
    (pushWord w s).flagD = s.flagD := by simp [pushWord]
@[simp] theorem pushWord_flagI (w : Word) (s : State) :
    (pushWord w s).flagI = s.flagI := by simp [pushWord]
@[simp] theorem pushWord_flagZ (w : Word) (s : State) :
    (pushWord w s).flagZ = s.flagZ := by simp [pushWord]
@[simp] theorem pushWord_flagC (w : Word) (s : State) :
    (pushWord w s).flagC = s.flagC := by simp [pushWord]
@[simp] theorem pushWord_flagB (w : Word) (s : State) :
    (pushWord w s).flagB = s.flagB := by simp [pushWord]
@[simp] theorem pushWord_nmiPending (w : Word) (s : State) :
    (pushWord w s).nmiPending = s.nmiPending := by simp [pushWord]
@[simp] theorem pushWord_penalty (w : Word) (s : State) :
    (pushWord w s).penalty = s.penalty := by simp [pushWord]
@[simp] theorem pushWord_bus (w : Word) (s : State) :
    (pushWord w s).bus = (s.bus.write (stackAddr s.sp) (hiByte w)).write (stackAddr (s.sp - 1)) (loByte w) := by simp [pushWord]
@[simp] theorem pushWord_run (w : Word) (s : State) :
    (pushWord w s).run = s.run := by simp [pushWord]
@[simp] theorem pushWord_stopReason (w : Word) (s : State) :
    (pushWord w s).stopReason = s.stopReason := by simp [pushWord]
@[simp] theorem pushWord_breakpoints (w : Word) (s : State) :
    (pushWord w s).breakpoints = s.breakpoints := by simp [pushWord]
@[simp] theorem pushWord_brkHalt (w : Word) (s : State) :
    (pushWord w s).brkHalt = s.brkHalt := by simp [pushWord]
@[simp] theorem pushWord_resetRequest (w : Word) (s : State) :
    (pushWord w s).resetRequest = s.resetRequest := by simp [pushWord]
@[simp] theorem pushWord_pauseRequest (w : Word) (s : State) :
    (pushWord w s).pauseRequest = s.pauseRequest := by simp [pushWord]
@[simp] theorem pushWord_singleStep (w : Word) (s : State) :
    (pushWord w s).singleStep = s.singleStep := by simp [pushWord]
@[simp] theorem pushWord_firstBoundary (w : Word) (s : State) :
    (pushWord w s).firstBoundary = s.firstBoundary := by simp [pushWord]
@[simp] theorem pushWord_schedule (w : Word) (s : State) :
    (pushWord w s).schedule = s.schedule := by simp [pushWord]
@[simp] theorem pushWord_draws (w : Word) (s : State) :
    (pushWord w s).draws = s.draws := by simp [pushWord]
@[simp] theorem pushWord_cycles (w : Word) (s : State) :
    (pushWord w s).cycles = s.cycles := by simp [pushWord]
@[simp] theorem pushWord_tick (w : Word) (s : State) :
    (pushWord w s).tick = s.tick := by simp [pushWord]

/-! ### pulling a word -/

@[simp] theorem pullWord_params (s : State) : (pullWord s).2.params = s.params := by simp [pullWord]
@[simp] theorem pullWord_a (s : State) : (pullWord s).2.a = s.a := by simp [pullWord]
@[simp] theorem pullWord_x (s : State) : (pullWord s).2.x = s.x := by simp [pullWord]
@[simp] theorem pullWord_y (s : State) : (pullWord s).2.y = s.y := by simp [pullWord]
@[simp] theorem pullWord_sp (s : State) : (pullWord s).2.sp = s.sp + 1 + 1 := by simp [pullWord]
@[simp] theorem pullWord_pc (s : State) : (pullWord s).2.pc = s.pc := by simp [pullWord]
@[simp] theorem pullWord_flagN (s : State) : (pullWord s).2.flagN = s.flagN := by simp [pullWord]
@[simp] theorem pullWord_flagV (s : State) : (pullWord s).2.flagV = s.flagV := by simp [pullWord]
@[simp] theorem pullWord_flagD (s : State) : (pullWord s).2.flagD = s.flagD := by simp [pullWord]
@[simp] theorem pullWord_flagI (s : State) : (pullWord s).2.flagI = s.flagI := by simp [pullWord]
@[simp] theorem pullWord_flagZ (s : State) : (pullWord s).2.flagZ = s.flagZ := by simp [pullWord]
@[simp] theorem pullWord_flagC (s : State) : (pullWord s).2.flagC = s.flagC := by simp [pullWord]
@[simp] theorem pullWord_flagB (s : State) : (pullWord s).2.flagB = s.flagB := by simp [pullWord]
@[simp] theorem pullWord_nmiPending (s : State) :
    (pullWord s).2.nmiPending = s.nmiPending := by simp [pullWord]
@[simp] theorem pullWord_penalty (s : State) :
    (pullWord s).2.penalty = s.penalty := by simp [pullWord]
@[simp] theorem pullWord_bus (s : State) :
    (pullWord s).2.bus = ((s.bus.read (stackAddr (s.sp + 1))).2.read (stackAddr (s.sp + 1 + 1))).2 := by simp [pullWord]
@[simp] theorem pullWord_run (s : State) : (pullWord s).2.run = s.run := by simp [pullWord]
@[simp] theorem pullWord_stopReason (s : State) :
    (pullWord s).2.stopReason = s.stopReason := by simp [pullWord]
@[simp] theorem pullWord_breakpoints (s : State) :
    (pullWord s).2.breakpoints = s.breakpoints := by simp [pullWord]
@[simp] theorem pullWord_brkHalt (s : State) :
    (pullWord s).2.brkHalt = s.brkHalt := by simp [pullWord]
@[simp] theorem pullWord_resetRequest (s : State) :
    (pullWord s).2.resetRequest = s.resetRequest := by simp [pullWord]
@[simp] theorem pullWord_pauseRequest (s : State) :
    (pullWord s).2.pauseRequest = s.pauseRequest := by simp [pullWord]
@[simp] theorem pullWord_singleStep (s : State) :
    (pullWord s).2.singleStep = s.singleStep := by simp [pullWord]
@[simp] theorem pullWord_firstBoundary (s : State) :
    (pullWord s).2.firstBoundary = s.firstBoundary := by simp [pullWord]
@[simp] theorem pullWord_schedule (s : State) :
    (pullWord s).2.schedule = s.schedule := by simp [pullWord]
@[simp] theorem pullWord_draws (s : State) : (pullWord s).2.draws = s.draws := by simp [pullWord]
@[simp] theorem pullWord_cycles (s : State) : (pullWord s).2.cycles = s.cycles := by simp [pullWord]
@[simp] theorem pullWord_tick (s : State) : (pullWord s).2.tick = s.tick := by simp [pullWord]

/-! ### 16-bit indexing -/

@[simp] theorem indexed_params (p : Word) (i : Byte) (s : State) :
    (indexed p i s).2.params = s.params := rfl
@[simp] theorem indexed_a (p : Word) (i : Byte) (s : State) : (indexed p i s).2.a = s.a := rfl
@[simp] theorem indexed_x (p : Word) (i : Byte) (s : State) : (indexed p i s).2.x = s.x := rfl
@[simp] theorem indexed_y (p : Word) (i : Byte) (s : State) : (indexed p i s).2.y = s.y := rfl
@[simp] theorem indexed_sp (p : Word) (i : Byte) (s : State) : (indexed p i s).2.sp = s.sp := rfl
@[simp] theorem indexed_pc (p : Word) (i : Byte) (s : State) : (indexed p i s).2.pc = s.pc := rfl
@[simp] theorem indexed_flagN (p : Word) (i : Byte) (s : State) :
    (indexed p i s).2.flagN = s.flagN := rfl
@[simp] theorem indexed_flagV (p : Word) (i : Byte) (s : State) :
    (indexed p i s).2.flagV = s.flagV := rfl
@[simp] theorem indexed_flagD (p : Word) (i : Byte) (s : State) :
    (indexed p i s).2.flagD = s.flagD := rfl
@[simp] theorem indexed_flagI (p : Word) (i : Byte) (s : State) :
    (indexed p i s).2.flagI = s.flagI := rfl
@[simp] theorem indexed_flagZ (p : Word) (i : Byte) (s : State) :
    (indexed p i s).2.flagZ = s.flagZ := rfl
@[simp] theorem indexed_flagC (p : Word) (i : Byte) (s : State) :
    (indexed p i s).2.flagC = s.flagC := rfl
@[simp] theorem indexed_flagB (p : Word) (i : Byte) (s : State) :
    (indexed p i s).2.flagB = s.flagB := rfl
@[simp] theorem indexed_nmiPending (p : Word) (i : Byte) (s : State) :
    (indexed p i s).2.nmiPending = s.nmiPending := rfl
@[simp] theorem indexed_penalty (p : Word) (i : Byte) (s : State) :
    (indexed p i s).2.penalty = crosses p (p + i.setWidth 16) := rfl
@[simp] theorem indexed_bus (p : Word) (i : Byte) (s : State) : (indexed p i s).2.bus = s.bus := rfl
@[simp] theorem indexed_run (p : Word) (i : Byte) (s : State) : (indexed p i s).2.run = s.run := rfl
@[simp] theorem indexed_stopReason (p : Word) (i : Byte) (s : State) :
    (indexed p i s).2.stopReason = s.stopReason := rfl
@[simp] theorem indexed_breakpoints (p : Word) (i : Byte) (s : State) :
    (indexed p i s).2.breakpoints = s.breakpoints := rfl
@[simp] theorem indexed_brkHalt (p : Word) (i : Byte) (s : State) :
    (indexed p i s).2.brkHalt = s.brkHalt := rfl
@[simp] theorem indexed_resetRequest (p : Word) (i : Byte) (s : State) :
    (indexed p i s).2.resetRequest = s.resetRequest := rfl
@[simp] theorem indexed_pauseRequest (p : Word) (i : Byte) (s : State) :
    (indexed p i s).2.pauseRequest = s.pauseRequest := rfl
@[simp] theorem indexed_singleStep (p : Word) (i : Byte) (s : State) :
    (indexed p i s).2.singleStep = s.singleStep := rfl
@[simp] theorem indexed_firstBoundary (p : Word) (i : Byte) (s : State) :
    (indexed p i s).2.firstBoundary = s.firstBoundary := rfl
@[simp] theorem indexed_schedule (p : Word) (i : Byte) (s : State) :
    (indexed p i s).2.schedule = s.schedule := rfl
@[simp] theorem indexed_draws (p : Word) (i : Byte) (s : State) :
    (indexed p i s).2.draws = s.draws := rfl
@[simp] theorem indexed_cycles (p : Word) (i : Byte) (s : State) :
    (indexed p i s).2.cycles = s.cycles := rfl
@[simp] theorem indexed_tick (p : Word) (i : Byte) (s : State) :
    (indexed p i s).2.tick = s.tick := rfl

/-! ### the data read of BBR and BBS -/

@[simp] theorem readZpr_params (z : Byte) (s : State) : (readZpr z s).2.params = s.params := rfl
@[simp] theorem readZpr_a (z : Byte) (s : State) : (readZpr z s).2.a = s.a := rfl
@[simp] theorem readZpr_x (z : Byte) (s : State) : (readZpr z s).2.x = s.x := rfl
@[simp] theorem readZpr_y (z : Byte) (s : State) : (readZpr z s).2.y = s.y := rfl
@[simp] theorem readZpr_sp (z : Byte) (s : State) : (readZpr z s).2.sp = s.sp := rfl
@[simp] theorem readZpr_pc (z : Byte) (s : State) : (readZpr z s).2.pc = s.pc := rfl
@[simp] theorem readZpr_flagN (z : Byte) (s : State) : (readZpr z s).2.flagN = s.flagN := rfl
@[simp] theorem readZpr_flagV (z : Byte) (s : State) : (readZpr z s).2.flagV = s.flagV := rfl
@[simp] theorem readZpr_flagD (z : Byte) (s : State) : (readZpr z s).2.flagD = s.flagD := rfl
@[simp] theorem readZpr_flagI (z : Byte) (s : State) : (readZpr z s).2.flagI = s.flagI := rfl
@[simp] theorem readZpr_flagZ (z : Byte) (s : State) : (readZpr z s).2.flagZ = s.flagZ := rfl
@[simp] theorem readZpr_flagC (z : Byte) (s : State) : (readZpr z s).2.flagC = s.flagC := rfl
@[simp] theorem readZpr_flagB (z : Byte) (s : State) : (readZpr z s).2.flagB = s.flagB := rfl
@[simp] theorem readZpr_nmiPending (z : Byte) (s : State) :
    (readZpr z s).2.nmiPending = s.nmiPending := rfl
@[simp] theorem readZpr_penalty (z : Byte) (s : State) : (readZpr z s).2.penalty = s.penalty := rfl
@[simp] theorem readZpr_run (z : Byte) (s : State) : (readZpr z s).2.run = s.run := rfl
@[simp] theorem readZpr_stopReason (z : Byte) (s : State) :
    (readZpr z s).2.stopReason = s.stopReason := rfl
@[simp] theorem readZpr_breakpoints (z : Byte) (s : State) :
    (readZpr z s).2.breakpoints = s.breakpoints := rfl
@[simp] theorem readZpr_brkHalt (z : Byte) (s : State) : (readZpr z s).2.brkHalt = s.brkHalt := rfl
@[simp] theorem readZpr_resetRequest (z : Byte) (s : State) :
    (readZpr z s).2.resetRequest = s.resetRequest := rfl
@[simp] theorem readZpr_pauseRequest (z : Byte) (s : State) :
    (readZpr z s).2.pauseRequest = s.pauseRequest := rfl
@[simp] theorem readZpr_singleStep (z : Byte) (s : State) :
    (readZpr z s).2.singleStep = s.singleStep := rfl
@[simp] theorem readZpr_firstBoundary (z : Byte) (s : State) :
    (readZpr z s).2.firstBoundary = s.firstBoundary := rfl
@[simp] theorem readZpr_schedule (z : Byte) (s : State) :
    (readZpr z s).2.schedule = s.schedule := rfl
@[simp] theorem readZpr_draws (z : Byte) (s : State) : (readZpr z s).2.draws = s.draws := rfl
@[simp] theorem readZpr_cycles (z : Byte) (s : State) : (readZpr z s).2.cycles = s.cycles := rfl
@[simp] theorem readZpr_tick (z : Byte) (s : State) : (readZpr z s).2.tick = s.tick := rfl

/-! ### the value halves -/

@[simp] theorem memRead_val (p : Word) (s : State) : (memRead p s).1 = (s.bus.read p).1 := rfl
@[simp] theorem fetch8_val (s : State) : (fetch8 s).1 = (s.bus.read s.pc).1 := rfl
@[simp] theorem pull_val (s : State) : (pull s).1 = (s.bus.read (stackAddr (s.sp + 1))).1 := rfl
@[simp] theorem memReadWord_val (p : Word) (s : State) :
    (memReadWord p s).1 = w16 (s.bus.read p).1 ((s.bus.read p).2.read (p + 1)).1 := by simp [memReadWord]
@[simp] theorem readZP16_val (z : Byte) (s : State) :
    (readZP16 z s).1 =
      w16 (s.bus.read (zeroPage z)).1 ((s.bus.read (zeroPage z)).2.read (zeroPage (z + 1))).1 := by simp [readZP16]
@[simp] theorem pullWord_val (s : State) :
    (pullWord s).1 = w16 (s.bus.read (stackAddr (s.sp + 1))).1
      ((s.bus.read (stackAddr (s.sp + 1))).2.read (stackAddr (s.sp + 1 + 1))).1 := by simp [pullWord]
@[simp] theorem indexed_val (p : Word) (i : Byte) (s : State) :
    (indexed p i s).1 = p + i.setWidth 16 := rfl

end Sys2Proof.Machine
end

