-- ==== Sys2Proof/Laws/Frames.lean ====
section
/-! SUPPORT. What each shared operation leaves unchanged, said once: the resolver, the operations of the
families, the cycle charges, the stack, interrupt entry. A claim about an instruction's frame is the
composition of these (`Unchanged.trans`). -/

namespace Sys2Proof.Machine

/-! ### Frames compose -/

theorem Unchanged.refl (but : List Field) (s : State) : Unchanged but s s := fun f _ => by
  cases f <;> rfl

theorem Field.same_trans {f : Field} {s t u : State} (h : f.same s t) (g : f.same t u) :
    f.same s u := by
  cases f <;> exact Eq.trans g h

theorem Unchanged.trans {b c d : List Field} {s t u : State} (h : Unchanged b s t)
    (g : Unchanged c t u) (hb : ∀ f ∈ b, f ∈ d) (hc : ∀ f ∈ c, f ∈ d) : Unchanged d s u :=
  fun f hf => Field.same_trans (h f fun hm => hf (hb f hm)) (g f fun hm => hf (hc f hm))

theorem Unchanged.mono {b c : List Field} {s t : State} (h : Unchanged b s t)
    (hb : ∀ f ∈ b, f ∈ c) : Unchanged c s t := fun f hf => h f fun hm => hf (hb f hm)

theorem SameStores.refl (b : Bus) : SameStores b b := fun _ _ => rfl

theorem SameStores.trans {a b c : Bus} (h : SameStores a b) (g : SameStores b c) :
    SameStores a c := fun st i => (g st i).trans (h st i)

/-! ### The resolver: only the bus and the page-cross bit; no store -/

theorem memRead_frame (a : Word) (s : State) : Unchanged [.bus] s (memRead a s).2 := fun f hf => by
  cases f <;> first | exact (hf (by decide)).elim | rfl

theorem readZP16_frame (z : Byte) (s : State) : Unchanged [.bus] s (readZP16 z s).2 :=
  (memRead_frame _ _).trans (memRead_frame _ _) (by simp) (by simp)

theorem readZP16_sameStores (z : Byte) (s : State) : SameStores s.bus (readZP16 z s).2.bus :=
  fun st i => by simp

theorem indexed_frame (base : Word) (i : Byte) (s : State) :
    Unchanged [.penalty] s (indexed base i s).2 := fun f hf => by
  cases f <;> first | exact (hf (by decide)).elim | rfl

theorem effectiveAddress_frame {o : Operand} {s : State} {p : Word × State}
    (h : effectiveAddress o s = some p) : Unchanged [.bus, .penalty] s p.2 := by
  cases o <;> simp only [effectiveAddress, Option.some.injEq, reduceCtorEq] at h <;> subst h
  case izx => exact (readZP16_frame _ _).mono (by simp)
  case izp => exact (readZP16_frame _ _).mono (by simp)
  case izy => exact (readZP16_frame _ _).trans (indexed_frame _ _ _) (by simp) (by simp)
  case abx => exact (indexed_frame _ _ _).mono (by simp)
  case aby => exact (indexed_frame _ _ _).mono (by simp)
  all_goals exact Unchanged.refl _ _

theorem effectiveAddress_sameStores {o : Operand} {s : State} {p : Word × State}
    (h : effectiveAddress o s = some p) : SameStores s.bus p.2.bus := by
  cases o <;> simp only [effectiveAddress, Option.some.injEq, reduceCtorEq] at h <;> subst h
  case izx => exact readZP16_sameStores _ _
  case izp => exact readZP16_sameStores _ _
  case izy => exact readZP16_sameStores _ _
  all_goals exact SameStores.refl _

/-- What an operand delivers, once: an immediate byte or A with nothing changed, or the byte of one bus read
at the effective address. -/
theorem operandByte_cases {o : Operand} {s : State} {p : Byte × State}
    (h : operandByte o s = some p) :
    (o = .imm p.1 ∧ p.2 = s) ∨ (o = .acc ∧ p = (s.a, s)) ∨
      ∃ ea, effectiveAddress o s = some ea ∧ p = readAt ea := by
  cases o <;> simp only [operandByte, effectiveAddress, Option.map_some, Option.map_none,
    Option.some.injEq, reduceCtorEq] at h <;> subst h
  case imm => exact .inl ⟨rfl, rfl⟩
  case acc => exact .inr (.inl ⟨rfl, rfl⟩)
  all_goals exact .inr (.inr ⟨_, rfl, rfl⟩)

theorem operandByte_frame {o : Operand} {s : State} {p : Byte × State}
    (h : operandByte o s = some p) : Unchanged [.bus, .penalty] s p.2 := by
  rcases operandByte_cases h with ⟨-, hp⟩ | ⟨-, rfl⟩ | ⟨ea, he, rfl⟩
  · rw [hp]; exact Unchanged.refl _ _
  · exact Unchanged.refl _ _
  · exact (effectiveAddress_frame he).trans (memRead_frame _ _) (by simp) (by simp)

theorem operandByte_sameStores {o : Operand} {s : State} {p : Byte × State}
    (h : operandByte o s = some p) : SameStores s.bus p.2.bus := by
  rcases operandByte_cases h with ⟨-, hp⟩ | ⟨-, rfl⟩ | ⟨ea, he, rfl⟩
  · rw [hp]; exact SameStores.refl _
  · exact SameStores.refl _
  · exact (effectiveAddress_sameStores he).trans (Bus.read_sameStores _ _)

/-! ### The cycle charges -/

theorem charge_frame (n : Nat) (s : State) : Unchanged [.cycles] s (charge n s) := fun f hf => by
  cases f <;> first | exact (hf (by decide)).elim | rfl

theorem chargeCross_frame (n : Nat) (s : State) : Unchanged [.cycles] s (chargeCross n s) :=
  charge_frame _ s

theorem chargeDecimal_frame (n : Nat) (s : State) : Unchanged [.cycles] s (chargeDecimal n s) :=
  charge_frame _ s

theorem chargeCrossDecimal_frame (n : Nat) (s : State) :
    Unchanged [.cycles] s (chargeCrossDecimal n s) := charge_frame _ s

/-! ### The flag computations -/

theorem setNZ_frame (v : Byte) (s : State) : Unchanged [.flagN, .flagZ] s (setNZ v s) :=
  fun f hf => by cases f <;> first | exact (hf (by decide)).elim | rfl

theorem unpack_frame (v : Byte) (s : State) :
    Unchanged [.flagN, .flagV, .flagD, .flagI, .flagZ, .flagC] s (unpack v s) :=
  fun f hf => by cases f <;> first | exact (hf (by decide)).elim | rfl

theorem compareByte_frame (r m : Byte) (s : State) :
    Unchanged [.flagN, .flagZ, .flagC] s (compareByte r m s) :=
  fun f hf => by cases f <;> first | exact (hf (by decide)).elim | rfl

theorem takeSum_frame (r : Sum) (s : State) :
    Unchanged [.a, .flagN, .flagV, .flagZ, .flagC] s (takeSum r s) :=
  fun f hf => by cases f <;> first | exact (hf (by decide)).elim | rfl

theorem takeDecimal_frame (r : Byte × Bool) (s : State) :
    Unchanged [.a, .flagN, .flagV, .flagZ, .flagC, .draws] s (takeDecimal r s) :=
  fun f hf => by cases f <;> first | exact (hf (by decide)).elim | rfl

/-- A read-modify-write computation that writes N, Z, C at most, as its state half. -/
theorem shifts_frame (m : Byte) (s : State) :
    Unchanged [.flagN, .flagZ, .flagC] s (aslByte m s).2 ∧
    Unchanged [.flagN, .flagZ, .flagC] s (lsrByte m s).2 ∧
    Unchanged [.flagN, .flagZ, .flagC] s (rolByte m s).2 ∧
    Unchanged [.flagN, .flagZ, .flagC] s (rorByte m s).2 := by
  refine ⟨?_, ?_, ?_, ?_⟩ <;>
  · intro f hf
    cases f <;> first | exact (hf (by decide)).elim | rfl

theorem incByte_frame (m : Byte) (s : State) : Unchanged [.flagN, .flagZ] s (incByte m s).2 :=
  setNZ_frame _ s

theorem decByte_frame (m : Byte) (s : State) : Unchanged [.flagN, .flagZ] s (decByte m s).2 :=
  setNZ_frame _ s

theorem tsbByte_frame (m : Byte) (s : State) : Unchanged [.flagZ] s (tsbByte m s).2 :=
  fun f hf => by cases f <;> first | exact (hf (by decide)).elim | rfl

theorem trbByte_frame (m : Byte) (s : State) : Unchanged [.flagZ] s (trbByte m s).2 :=
  fun f hf => by cases f <;> first | exact (hf (by decide)).elim | rfl

/-! ### Writing, the stack, PC -/

theorem memWrite_frame (a : Word) (v : Byte) (s : State) : Unchanged [.bus] s (memWrite a v s) :=
  fun f hf => by cases f <;> first | exact (hf (by decide)).elim | rfl

theorem setPc_frame (a : Word) (s : State) : Unchanged [.pc] s (setPc a s) :=
  fun f hf => by cases f <;> first | exact (hf (by decide)).elim | rfl

theorem push_frame (v : Byte) (s : State) : Unchanged [.bus, .sp] s (push v s) :=
  fun f hf => by cases f <;> first | exact (hf (by decide)).elim | rfl

theorem pushWord_frame (w : Word) (s : State) : Unchanged [.bus, .sp] s (pushWord w s) :=
  (push_frame _ _).trans (push_frame _ _) (by simp) (by simp)

theorem pull_frame (s : State) : Unchanged [.bus, .sp] s (pull s).2 :=
  fun f hf => by cases f <;> first | exact (hf (by decide)).elim | rfl

theorem pullWord_frame (s : State) : Unchanged [.bus, .sp] s (pullWord s).2 :=
  (pull_frame _).trans (pull_frame _) (by simp) (by simp)

theorem memReadWord_frame (a : Word) (s : State) : Unchanged [.bus] s (memReadWord a s).2 :=
  (memRead_frame _ _).trans (memRead_frame _ _) (by simp) (by simp)

/-- An interrupt frame and vector: what `enterInterrupt` writes. -/
theorem enterInterrupt_frame (ret : Word) (b : Bool) (vec : Word) (s : State) :
    Unchanged [.bus, .sp, .pc, .flagI, .flagD, .flagB] s (enterInterrupt ret b vec s) := by
  intro f hf
  cases f <;> first | exact (hf (by decide)).elim | simp [Field.same, enterInterrupt]

/-- What returning from an interrupt writes. -/
theorem returnFromInterrupt_frame (s : State) :
    Unchanged [.bus, .sp, .pc, .flagN, .flagV, .flagD, .flagI, .flagZ, .flagC] s
      (returnFromInterrupt s) := by
  intro f hf
  cases f <;> first | exact (hf (by decide)).elim | simp [Field.same, returnFromInterrupt]

/-- A branch writes PC and the cycles. -/
theorem branchIf_frame (c : Bool) (d : Int) (n : Nat) (s : State) :
    Unchanged [.pc, .cycles] s (branchIf c d n s) := by
  cases c
  · exact (charge_frame _ _).mono (by simp)
  · exact (charge_frame _ _).trans (setPc_frame _ _) (by simp) (by simp)

/-! ### Reading one stack or page-zero byte -/

/-- A read of RAM: the byte, and one note in the access list. -/
theorem Bus.read_ram (b : Bus) {a : Word} (h : a.toNat ≤ 0xBFFF) :
    b.read a = (b.byteAt .ram a.toNat, b.note ⟨.read, a, b.byteAt .ram a.toNat⟩) :=
  Bus.read_of_map (Bus.readMap_ram b h)

theorem Bus.read_zeroPage (b : Bus) (z : Byte) :
    b.read (zeroPage z) =
      (b.byteAt .ram z.toNat, b.note ⟨.read, zeroPage z, b.byteAt .ram z.toNat⟩) := by
  rw [Bus.read_ram b (zeroPage_ram z), zeroPage_toNat]

theorem Bus.read_stack (b : Bus) (sp : Byte) :
    b.read (stackAddr sp) =
      (b.byteAt .ram (0x100 + sp.toNat),
        b.note ⟨.read, stackAddr sp, b.byteAt .ram (0x100 + sp.toNat)⟩) := by
  rw [Bus.read_ram b (stackAddr_ram sp), stackAddr_toNat]

end Sys2Proof.Machine
end

