-- ==== Sys2Proof/Laws/Exec.lean ====
section
/-! SUPPORT. What an instruction can do, said once for all of them: each completes, writes only the fields listed
for its mnemonic, and reaches its bus from the one it starts with by bus accesses alone. A claim over every
instruction, or over every step, cites `exec_does` and the two lemmas after it instead of the meanings. -/

namespace Sys2Proof.Machine

/-! ### Frames of the operations of the families -/

theorem loadA_frame (r : Byte × State) : Unchanged [.a, .flagN, .flagZ] r.2 (loadA r) :=
  fun f hf => by cases f <;> first | exact (hf (by decide)).elim | rfl
theorem loadX_frame (r : Byte × State) : Unchanged [.x, .flagN, .flagZ] r.2 (loadX r) :=
  fun f hf => by cases f <;> first | exact (hf (by decide)).elim | rfl
theorem loadY_frame (r : Byte × State) : Unchanged [.y, .flagN, .flagZ] r.2 (loadY r) :=
  fun f hf => by cases f <;> first | exact (hf (by decide)).elim | rfl
theorem stepX_frame (v : Byte) (s : State) : Unchanged [.x, .flagN, .flagZ] s (stepX v s) :=
  loadX_frame (v, s)
theorem stepY_frame (v : Byte) (s : State) : Unchanged [.y, .flagN, .flagZ] s (stepY v s) :=
  loadY_frame (v, s)
theorem cmp_frame (r : Byte × State) : Unchanged [.flagN, .flagZ, .flagC] r.2 (cmp r) :=
  compareByte_frame _ _ _
theorem cpx_frame (r : Byte × State) : Unchanged [.flagN, .flagZ, .flagC] r.2 (cpx r) :=
  compareByte_frame _ _ _
theorem cpy_frame (r : Byte × State) : Unchanged [.flagN, .flagZ, .flagC] r.2 (cpy r) :=
  compareByte_frame _ _ _
theorem andA_frame (r : Byte × State) : Unchanged [.a, .flagN, .flagZ] r.2 (andA r) := loadA_frame _
theorem oraA_frame (r : Byte × State) : Unchanged [.a, .flagN, .flagZ] r.2 (oraA r) := loadA_frame _
theorem eorA_frame (r : Byte × State) : Unchanged [.a, .flagN, .flagZ] r.2 (eorA r) := loadA_frame _
theorem bitMem_frame (r : Byte × State) : Unchanged [.flagN, .flagV, .flagZ] r.2 (bitMem r) :=
  fun f hf => by cases f <;> first | exact (hf (by decide)).elim | rfl
theorem bitImm_frame (r : Byte × State) : Unchanged [.flagZ] r.2 (bitImm r) :=
  fun f hf => by cases f <;> first | exact (hf (by decide)).elim | rfl
theorem adc_frame (r : Byte × State) :
    Unchanged [.a, .flagN, .flagV, .flagZ, .flagC, .draws] r.2 (adc r) := by
  simp only [adc]
  split
  · exact takeDecimal_frame _ _
  · exact (takeSum_frame _ _).mono (by decide)
theorem sbc_frame (r : Byte × State) :
    Unchanged [.a, .flagN, .flagV, .flagZ, .flagC, .draws] r.2 (sbc r) := by
  simp only [sbc]
  split
  · exact takeDecimal_frame _ _
  · exact (takeSum_frame _ _).mono (by decide)
theorem aslByte_frame (m : Byte) (s : State) :
    Unchanged [.flagN, .flagZ, .flagC] s (aslByte m s).2 := (shifts_frame m s).1
theorem lsrByte_frame (m : Byte) (s : State) :
    Unchanged [.flagN, .flagZ, .flagC] s (lsrByte m s).2 := (shifts_frame m s).2.1
theorem rolByte_frame (m : Byte) (s : State) :
    Unchanged [.flagN, .flagZ, .flagC] s (rolByte m s).2 := (shifts_frame m s).2.2.1
theorem rorByte_frame (m : Byte) (s : State) :
    Unchanged [.flagN, .flagZ, .flagC] s (rorByte m s).2 := (shifts_frame m s).2.2.2
theorem rmbByte_frame (n : Nat) (m : Byte) (s : State) : Unchanged [] s (rmbByte n m s).2 :=
  Unchanged.refl _ _
theorem smbByte_frame (n : Nat) (m : Byte) (s : State) : Unchanged [] s (smbByte n m s).2 :=
  Unchanged.refl _ _
theorem jumpTo_frame (p : Word × State) : Unchanged [.pc] p.2 (jumpTo p) := setPc_frame _ _
theorem setSp_frame (v : Byte) (s : State) : Unchanged [.sp] s { s with sp := v } :=
  fun f hf => by cases f <;> first | exact (hf (by decide)).elim | rfl
theorem flagV_frame (v : Bool) (s : State) : Unchanged [.flagV] s { s with flagV := v } :=
  fun f hf => by cases f <;> first | exact (hf (by decide)).elim | rfl
theorem flagD_frame (v : Bool) (s : State) : Unchanged [.flagD] s { s with flagD := v } :=
  fun f hf => by cases f <;> first | exact (hf (by decide)).elim | rfl
theorem flagI_frame (v : Bool) (s : State) : Unchanged [.flagI] s { s with flagI := v } :=
  fun f hf => by cases f <;> first | exact (hf (by decide)).elim | rfl
theorem flagC_frame (v : Bool) (s : State) : Unchanged [.flagC] s { s with flagC := v } :=
  fun f hf => by cases f <;> first | exact (hf (by decide)).elim | rfl
theorem readZpr_frame (z : Byte) (s : State) : Unchanged [.bus] s (readZpr z s).2 :=
  fun f hf => by cases f <;> first | exact (hf (by decide)).elim | rfl
theorem debuggerBrk_frame (s : State) :
    Unchanged [.pc, .cycles, .run, .stopReason] s (debuggerBrk s) :=
  fun f hf => by cases f <;> first | exact (hf (by decide)).elim | rfl
theorem unimplementedOpcode_frame (o : Byte) (s : State) :
    Unchanged [.pc, .cycles, .run, .stopReason] s (unimplementedOpcode o s) := by
  simp only [unimplementedOpcode]
  split <;> (intro f hf; cases f <;> first | exact (hf (by decide)).elim | rfl)

/-! ### What an instruction does: its frame, and its bus by accesses alone -/

/-- The second bus is reached from the first by reads, writes, and the data read of BBR and BBS. -/
inductive Bus.Reaches (b : Bus) : Bus → Prop where
  | refl : b.Reaches b
  | read {c : Bus} (a : Word) : b.Reaches c → b.Reaches (c.read a).2
  | write {c : Bus} (a : Word) (v : Byte) : b.Reaches c → b.Reaches (c.write a v)
  | readZpr {s : State} (z : Byte) : b.Reaches s.bus → b.Reaches (readZpr z s).2.bus

/-- `t` has all of `s` but the fields listed, and its bus is reached by accesses. -/
def Does (fields : List Field) (s t : State) : Prop :=
  Unchanged fields s t ∧ s.bus.Reaches t.bus

theorem Does.of {fields : List Field} {s t : State} (h : Unchanged fields s t)
    (hb : fields.contains .bus = false := by rfl) : Does fields s t := by
  have : t.bus = s.bus := h .bus (by simpa using hb)
  exact ⟨h, by rw [this]; exact .refl⟩

theorem Does.both {b c : List Field} {s t u : State} (h : Does b s t) (g : Unchanged c t u)
    (hb : c.contains .bus = false := by rfl) : Does (b ++ c) s u := by
  have : u.bus = t.bus := g .bus (by simpa using hb)
  exact ⟨h.1.trans g (by simp; intro f; exact .inl) (by simp; intro f; exact .inr), by
    rw [this]; exact h.2⟩

theorem Does.within {b c : List Field} {s t : State} (h : Does b s t)
    (hb : b.all c.contains = true) : Does c s t :=
  ⟨h.1.mono (by simpa using hb), h.2⟩

theorem Bus.Reaches.trans {b c d : Bus} (h : b.Reaches c) (g : c.Reaches d) : b.Reaches d := by
  induction g with
  | refl => exact h
  | read a _ ih => exact .read a ih
  | write a v _ ih => exact .write a v ih
  | readZpr z _ ih => exact .readZpr z ih

theorem effectiveAddress_does {o : Operand} {s : State} {p : Word × State}
    (h : effectiveAddress o s = some p) : Does [.bus, .penalty] s p.2 := by
  refine ⟨effectiveAddress_frame h, ?_⟩
  cases o <;> simp only [effectiveAddress, Option.some.injEq, reduceCtorEq] at h <;> subst h
  case izx => exact .read _ (.read _ .refl)
  case izy => exact .read _ (.read _ .refl)
  case izp => exact .read _ (.read _ .refl)
  all_goals exact .refl

theorem read_does {o : Operand} {s u : State} {p : Word × State} {b c : List Field}
    {f : Byte × State → State} (h : effectiveAddress o s = some p)
    (hf : Unchanged b (readAt p).2 (f (readAt p))) (hc : Unchanged c (f (readAt p)) u)
    (hb : b.contains .bus = false := by rfl) (hcb : c.contains .bus = false := by rfl) :
    Does ([.bus, .penalty] ++ b ++ c) s u := by
  have he := effectiveAddress_does h
  refine .both (.both (b := [.bus, .penalty]) ⟨?_, .read _ he.2⟩ hf hb) hc hcb
  exact he.1.trans (memRead_frame _ _) (by simp) (by simp)

theorem store_does {o : Operand} {s u : State} {p : Word × State} {c : List Field}
    (h : effectiveAddress o s = some p) (v : Byte) (hc : Unchanged c (writeAt v p) u)
    (hcb : c.contains .bus = false := by rfl) : Does ([.bus, .penalty] ++ c) s u := by
  have he := effectiveAddress_does h
  refine .both (b := [.bus, .penalty]) ⟨?_, .write _ _ he.2⟩ hc hcb
  exact he.1.trans (memWrite_frame _ _ _) (by simp) (by simp)

theorem modifyAt_does {o : Operand} {s u : State} {p : Word × State} {b c : List Field}
    {f : Byte → State → Byte × State} (h : effectiveAddress o s = some p)
    (hf : ∀ m t, Unchanged b t (f m t).2) (hc : Unchanged c (modifyAt f p) u)
    (hb : b.contains .bus = false := by rfl) (hcb : c.contains .bus = false := by rfl) :
    Does ([.bus, .penalty] ++ b ++ c) s u := by
  have he := effectiveAddress_does h
  have hr : Does [.bus, .penalty] s (memRead p.1 p.2).2 :=
    ⟨he.1.trans (memRead_frame _ _) (by simp) (by simp), .read _ he.2⟩
  have hg := hr.both (hf (memRead p.1 p.2).1 _) hb
  refine .both ⟨hg.1.trans (memWrite_frame _ _ _) (fun _ hx => hx) (by simp), .write _ _ hg.2⟩ hc hcb

theorem modifyA_does {s u : State} {b c : List Field} {f : Byte → State → Byte × State}
    (hf : ∀ m t, Unchanged b t (f m t).2) (hc : Unchanged c (modifyA f s) u)
    (hb : b.contains .bus = false := by rfl) (hcb : c.contains .bus = false := by rfl) :
    Does (b ++ [.a] ++ c) s u := by
  refine .both (.both (.of (hf s.a s) hb) (c := [.a]) (fun g hg => ?_)) hc hcb
  cases g <;> first | exact (hg (by decide)).elim | rfl

theorem push_does (v : Byte) (s : State) : Does [.bus, .sp] s (push v s) :=
  ⟨push_frame v s, .write _ _ .refl⟩

theorem pull_does (s : State) : Does [.bus, .sp] s (pull s).2 := ⟨pull_frame s, .read _ .refl⟩

theorem jumpSubroutine_does (a : Word) (s : State) :
    Does [.bus, .sp, .pc] s (jumpSubroutine a s) :=
  ⟨(pushWord_frame _ _).trans (setPc_frame _ _) (by simp) (by simp),
    .write _ _ (.write _ _ .refl)⟩

theorem returnSubroutine_does (s : State) : Does [.bus, .sp, .pc] s (returnSubroutine s) :=
  ⟨(pullWord_frame _).trans (setPc_frame _ _) (by simp) (by simp), .read _ (.read _ .refl)⟩

theorem enterInterrupt_does (ret : Word) (b : Bool) (vec : Word) (s : State) :
    Does [.bus, .sp, .pc, .flagI, .flagD, .flagB] s (enterInterrupt ret b vec s) :=
  ⟨enterInterrupt_frame ret b vec s,
    .read _ (.read _ (.write _ _ (.write _ _ (.write _ _ .refl))))⟩

theorem returnFromInterrupt_does (s : State) :
    Does [.bus, .sp, .pc, .flagN, .flagV, .flagD, .flagI, .flagZ, .flagC] s
      (returnFromInterrupt s) :=
  ⟨returnFromInterrupt_frame s, .read _ (.read _ (.read _ .refl))⟩

theorem targetInd_does (a : Word) (s : State) : Does [.bus] s (targetInd a s).2 :=
  ⟨(memRead_frame _ _).trans (memRead_frame _ _) (by simp) (by simp), .read _ (.read _ .refl)⟩

theorem targetIax_does (a : Word) (s : State) : Does [.bus] s (targetIax a s).2 :=
  ⟨memReadWord_frame _ _, .read _ (.read _ .refl)⟩

theorem branchBit_does (c : Bool) (z : Byte) (d : Int) (s : State) :
    Does [.bus, .pc, .cycles] s (branchIf c d 5 (readZpr z s).2) :=
  .both (b := [.bus]) ⟨readZpr_frame z s, .readZpr z .refl⟩ (branchIf_frame _ _ _ _)

theorem brk_does (s : State) :
    Does [.bus, .sp, .pc, .flagI, .flagD, .flagB, .cycles, .run, .stopReason] s
      (if s.brkHalt then debuggerBrk s else softwareBrk s) := by
  split
  · exact (Does.of (debuggerBrk_frame s)).within rfl
  · exact ((enterInterrupt_does _ _ _ s).both (charge_frame _ _)).within rfl

/-- The fields an instruction may write beside the bus, PC, A, X, Y, N, Z, the page-cross bit and the cycles. -/
def extraWrites : Mnemonic → List Field
  | .adc | .sbc => [.flagC, .flagV, .draws]
  | .cmp | .cpx | .cpy | .asl | .lsr | .rol | .ror | .clc | .sec => [.flagC]
  | .bit | .clv => [.flagV]
  | .txs | .pha | .phx | .phy | .php | .pla | .plx | .ply | .jsr | .rts => [.sp]
  | .plp | .rti => [.sp, .flagV, .flagC, .flagD, .flagI]
  | .brk => [.sp, .flagI, .flagD, .flagB, .run, .stopReason]
  | .sei | .cli => [.flagI]
  | .sed | .cld => [.flagD]
  | .unimplemented => [.run, .stopReason]
  | _ => []

/-- The fields an instruction may write. -/
def writes (m : Mnemonic) : List Field :=
  [.bus, .penalty, .cycles, .pc, .a, .x, .y, .flagN, .flagZ] ++ extraWrites m

/-- Every instruction completes, within its mnemonic's fields, by bus accesses. -/
theorem exec_does (i : Instr) (s : State) :
    ∃ t, exec i s = .next t ∧ Does (writes i.mnemonic) s t := by
  cases i with
  | ldaIzx z => exact ⟨_, rfl, .within (read_does (o := .izx z) rfl (loadA_frame _) (charge_frame _ _)) rfl⟩
  | ldaZp z => exact ⟨_, rfl, .within (read_does (o := .zp z) rfl (loadA_frame _) (charge_frame _ _)) rfl⟩
  | ldaImm _ => exact ⟨_, rfl, .within (.both (.of (loadA_frame (_, s))) (charge_frame _ _)) rfl⟩
  | ldaAbs a => exact ⟨_, rfl, .within (read_does (o := .abs a) rfl (loadA_frame _) (charge_frame _ _)) rfl⟩
  | ldaIzy z => exact ⟨_, rfl, .within (read_does (o := .izy z) rfl (loadA_frame _) (chargeCross_frame _ _)) rfl⟩
  | ldaIzp z => exact ⟨_, rfl, .within (read_does (o := .izp z) rfl (loadA_frame _) (charge_frame _ _)) rfl⟩
  | ldaZpx z => exact ⟨_, rfl, .within (read_does (o := .zpx z) rfl (loadA_frame _) (charge_frame _ _)) rfl⟩
  | ldaAby a => exact ⟨_, rfl, .within (read_does (o := .aby a) rfl (loadA_frame _) (chargeCross_frame _ _)) rfl⟩
  | ldaAbx a => exact ⟨_, rfl, .within (read_does (o := .abx a) rfl (loadA_frame _) (chargeCross_frame _ _)) rfl⟩
  | ldxImm _ => exact ⟨_, rfl, .within (.both (.of (loadX_frame (_, s))) (charge_frame _ _)) rfl⟩
  | ldxZp z => exact ⟨_, rfl, .within (read_does (o := .zp z) rfl (loadX_frame _) (charge_frame _ _)) rfl⟩
  | ldxAbs a => exact ⟨_, rfl, .within (read_does (o := .abs a) rfl (loadX_frame _) (charge_frame _ _)) rfl⟩
  | ldxZpy z => exact ⟨_, rfl, .within (read_does (o := .zpy z) rfl (loadX_frame _) (charge_frame _ _)) rfl⟩
  | ldxAby a => exact ⟨_, rfl, .within (read_does (o := .aby a) rfl (loadX_frame _) (chargeCross_frame _ _)) rfl⟩
  | ldyImm _ => exact ⟨_, rfl, .within (.both (.of (loadY_frame (_, s))) (charge_frame _ _)) rfl⟩
  | ldyZp z => exact ⟨_, rfl, .within (read_does (o := .zp z) rfl (loadY_frame _) (charge_frame _ _)) rfl⟩
  | ldyAbs a => exact ⟨_, rfl, .within (read_does (o := .abs a) rfl (loadY_frame _) (charge_frame _ _)) rfl⟩
  | ldyZpx z => exact ⟨_, rfl, .within (read_does (o := .zpx z) rfl (loadY_frame _) (charge_frame _ _)) rfl⟩
  | ldyAbx a => exact ⟨_, rfl, .within (read_does (o := .abx a) rfl (loadY_frame _) (chargeCross_frame _ _)) rfl⟩
  | staIzx z => exact ⟨_, rfl, .within (store_does (o := .izx z) rfl _ (charge_frame _ _)) rfl⟩
  | staZp z => exact ⟨_, rfl, .within (store_does (o := .zp z) rfl _ (charge_frame _ _)) rfl⟩
  | staAbs a => exact ⟨_, rfl, .within (store_does (o := .abs a) rfl _ (charge_frame _ _)) rfl⟩
  | staIzy z => exact ⟨_, rfl, .within (store_does (o := .izy z) rfl _ (charge_frame _ _)) rfl⟩
  | staIzp z => exact ⟨_, rfl, .within (store_does (o := .izp z) rfl _ (charge_frame _ _)) rfl⟩
  | staZpx z => exact ⟨_, rfl, .within (store_does (o := .zpx z) rfl _ (charge_frame _ _)) rfl⟩
  | staAby a => exact ⟨_, rfl, .within (store_does (o := .aby a) rfl _ (charge_frame _ _)) rfl⟩
  | staAbx a => exact ⟨_, rfl, .within (store_does (o := .abx a) rfl _ (charge_frame _ _)) rfl⟩
  | stxZp z => exact ⟨_, rfl, .within (store_does (o := .zp z) rfl _ (charge_frame _ _)) rfl⟩
  | stxAbs a => exact ⟨_, rfl, .within (store_does (o := .abs a) rfl _ (charge_frame _ _)) rfl⟩
  | stxZpy z => exact ⟨_, rfl, .within (store_does (o := .zpy z) rfl _ (charge_frame _ _)) rfl⟩
  | styZp z => exact ⟨_, rfl, .within (store_does (o := .zp z) rfl _ (charge_frame _ _)) rfl⟩
  | styAbs a => exact ⟨_, rfl, .within (store_does (o := .abs a) rfl _ (charge_frame _ _)) rfl⟩
  | styZpx z => exact ⟨_, rfl, .within (store_does (o := .zpx z) rfl _ (charge_frame _ _)) rfl⟩
  | stzZp z => exact ⟨_, rfl, .within (store_does (o := .zp z) rfl _ (charge_frame _ _)) rfl⟩
  | stzZpx z => exact ⟨_, rfl, .within (store_does (o := .zpx z) rfl _ (charge_frame _ _)) rfl⟩
  | stzAbs a => exact ⟨_, rfl, .within (store_does (o := .abs a) rfl _ (charge_frame _ _)) rfl⟩
  | stzAbx a => exact ⟨_, rfl, .within (store_does (o := .abx a) rfl _ (charge_frame _ _)) rfl⟩
  | adcIzx z => exact ⟨_, rfl, .within (read_does (o := .izx z) rfl (adc_frame _) (chargeDecimal_frame _ _)) rfl⟩
  | adcZp z => exact ⟨_, rfl, .within (read_does (o := .zp z) rfl (adc_frame _) (chargeDecimal_frame _ _)) rfl⟩
  | adcImm _ => exact ⟨_, rfl, .within (.both (.of (adc_frame (_, s))) (chargeDecimal_frame _ _)) rfl⟩
  | adcAbs a => exact ⟨_, rfl, .within (read_does (o := .abs a) rfl (adc_frame _) (chargeDecimal_frame _ _)) rfl⟩
  | adcIzy z => exact ⟨_, rfl, .within (read_does (o := .izy z) rfl (adc_frame _) (chargeCrossDecimal_frame _ _)) rfl⟩
  | adcIzp z => exact ⟨_, rfl, .within (read_does (o := .izp z) rfl (adc_frame _) (chargeDecimal_frame _ _)) rfl⟩
  | adcZpx z => exact ⟨_, rfl, .within (read_does (o := .zpx z) rfl (adc_frame _) (chargeDecimal_frame _ _)) rfl⟩
  | adcAby a => exact ⟨_, rfl, .within (read_does (o := .aby a) rfl (adc_frame _) (chargeCrossDecimal_frame _ _)) rfl⟩
  | adcAbx a => exact ⟨_, rfl, .within (read_does (o := .abx a) rfl (adc_frame _) (chargeCrossDecimal_frame _ _)) rfl⟩
  | sbcIzx z => exact ⟨_, rfl, .within (read_does (o := .izx z) rfl (sbc_frame _) (chargeDecimal_frame _ _)) rfl⟩
  | sbcZp z => exact ⟨_, rfl, .within (read_does (o := .zp z) rfl (sbc_frame _) (chargeDecimal_frame _ _)) rfl⟩
  | sbcImm _ => exact ⟨_, rfl, .within (.both (.of (sbc_frame (_, s))) (chargeDecimal_frame _ _)) rfl⟩
  | sbcAbs a => exact ⟨_, rfl, .within (read_does (o := .abs a) rfl (sbc_frame _) (chargeDecimal_frame _ _)) rfl⟩
  | sbcIzy z => exact ⟨_, rfl, .within (read_does (o := .izy z) rfl (sbc_frame _) (chargeCrossDecimal_frame _ _)) rfl⟩
  | sbcIzp z => exact ⟨_, rfl, .within (read_does (o := .izp z) rfl (sbc_frame _) (chargeDecimal_frame _ _)) rfl⟩
  | sbcZpx z => exact ⟨_, rfl, .within (read_does (o := .zpx z) rfl (sbc_frame _) (chargeDecimal_frame _ _)) rfl⟩
  | sbcAby a => exact ⟨_, rfl, .within (read_does (o := .aby a) rfl (sbc_frame _) (chargeCrossDecimal_frame _ _)) rfl⟩
  | sbcAbx a => exact ⟨_, rfl, .within (read_does (o := .abx a) rfl (sbc_frame _) (chargeCrossDecimal_frame _ _)) rfl⟩
  | cmpIzx z => exact ⟨_, rfl, .within (read_does (o := .izx z) rfl (cmp_frame _) (charge_frame _ _)) rfl⟩
  | cmpZp z => exact ⟨_, rfl, .within (read_does (o := .zp z) rfl (cmp_frame _) (charge_frame _ _)) rfl⟩
  | cmpImm _ => exact ⟨_, rfl, .within (.both (.of (cmp_frame (_, s))) (charge_frame _ _)) rfl⟩
  | cmpAbs a => exact ⟨_, rfl, .within (read_does (o := .abs a) rfl (cmp_frame _) (charge_frame _ _)) rfl⟩
  | cmpIzy z => exact ⟨_, rfl, .within (read_does (o := .izy z) rfl (cmp_frame _) (chargeCross_frame _ _)) rfl⟩
  | cmpIzp z => exact ⟨_, rfl, .within (read_does (o := .izp z) rfl (cmp_frame _) (charge_frame _ _)) rfl⟩
  | cmpZpx z => exact ⟨_, rfl, .within (read_does (o := .zpx z) rfl (cmp_frame _) (charge_frame _ _)) rfl⟩
  | cmpAby a => exact ⟨_, rfl, .within (read_does (o := .aby a) rfl (cmp_frame _) (chargeCross_frame _ _)) rfl⟩
  | cmpAbx a => exact ⟨_, rfl, .within (read_does (o := .abx a) rfl (cmp_frame _) (chargeCross_frame _ _)) rfl⟩
  | cpxImm _ => exact ⟨_, rfl, .within (.both (.of (cpx_frame (_, s))) (charge_frame _ _)) rfl⟩
  | cpxZp z => exact ⟨_, rfl, .within (read_does (o := .zp z) rfl (cpx_frame _) (charge_frame _ _)) rfl⟩
  | cpxAbs a => exact ⟨_, rfl, .within (read_does (o := .abs a) rfl (cpx_frame _) (charge_frame _ _)) rfl⟩
  | cpyImm _ => exact ⟨_, rfl, .within (.both (.of (cpy_frame (_, s))) (charge_frame _ _)) rfl⟩
  | cpyZp z => exact ⟨_, rfl, .within (read_does (o := .zp z) rfl (cpy_frame _) (charge_frame _ _)) rfl⟩
  | cpyAbs a => exact ⟨_, rfl, .within (read_does (o := .abs a) rfl (cpy_frame _) (charge_frame _ _)) rfl⟩
  | andIzx z => exact ⟨_, rfl, .within (read_does (o := .izx z) rfl (andA_frame _) (charge_frame _ _)) rfl⟩
  | andZp z => exact ⟨_, rfl, .within (read_does (o := .zp z) rfl (andA_frame _) (charge_frame _ _)) rfl⟩
  | andImm _ => exact ⟨_, rfl, .within (.both (.of (andA_frame (_, s))) (charge_frame _ _)) rfl⟩
  | andAbs a => exact ⟨_, rfl, .within (read_does (o := .abs a) rfl (andA_frame _) (charge_frame _ _)) rfl⟩
  | andIzy z => exact ⟨_, rfl, .within (read_does (o := .izy z) rfl (andA_frame _) (chargeCross_frame _ _)) rfl⟩
  | andIzp z => exact ⟨_, rfl, .within (read_does (o := .izp z) rfl (andA_frame _) (charge_frame _ _)) rfl⟩
  | andZpx z => exact ⟨_, rfl, .within (read_does (o := .zpx z) rfl (andA_frame _) (charge_frame _ _)) rfl⟩
  | andAby a => exact ⟨_, rfl, .within (read_does (o := .aby a) rfl (andA_frame _) (chargeCross_frame _ _)) rfl⟩
  | andAbx a => exact ⟨_, rfl, .within (read_does (o := .abx a) rfl (andA_frame _) (chargeCross_frame _ _)) rfl⟩
  | oraIzx z => exact ⟨_, rfl, .within (read_does (o := .izx z) rfl (oraA_frame _) (charge_frame _ _)) rfl⟩
  | oraZp z => exact ⟨_, rfl, .within (read_does (o := .zp z) rfl (oraA_frame _) (charge_frame _ _)) rfl⟩
  | oraImm _ => exact ⟨_, rfl, .within (.both (.of (oraA_frame (_, s))) (charge_frame _ _)) rfl⟩
  | oraAbs a => exact ⟨_, rfl, .within (read_does (o := .abs a) rfl (oraA_frame _) (charge_frame _ _)) rfl⟩
  | oraIzy z => exact ⟨_, rfl, .within (read_does (o := .izy z) rfl (oraA_frame _) (chargeCross_frame _ _)) rfl⟩
  | oraIzp z => exact ⟨_, rfl, .within (read_does (o := .izp z) rfl (oraA_frame _) (charge_frame _ _)) rfl⟩
  | oraZpx z => exact ⟨_, rfl, .within (read_does (o := .zpx z) rfl (oraA_frame _) (charge_frame _ _)) rfl⟩
  | oraAby a => exact ⟨_, rfl, .within (read_does (o := .aby a) rfl (oraA_frame _) (chargeCross_frame _ _)) rfl⟩
  | oraAbx a => exact ⟨_, rfl, .within (read_does (o := .abx a) rfl (oraA_frame _) (chargeCross_frame _ _)) rfl⟩
  | eorIzx z => exact ⟨_, rfl, .within (read_does (o := .izx z) rfl (eorA_frame _) (charge_frame _ _)) rfl⟩
  | eorZp z => exact ⟨_, rfl, .within (read_does (o := .zp z) rfl (eorA_frame _) (charge_frame _ _)) rfl⟩
  | eorImm _ => exact ⟨_, rfl, .within (.both (.of (eorA_frame (_, s))) (charge_frame _ _)) rfl⟩
  | eorAbs a => exact ⟨_, rfl, .within (read_does (o := .abs a) rfl (eorA_frame _) (charge_frame _ _)) rfl⟩
  | eorIzy z => exact ⟨_, rfl, .within (read_does (o := .izy z) rfl (eorA_frame _) (chargeCross_frame _ _)) rfl⟩
  | eorIzp z => exact ⟨_, rfl, .within (read_does (o := .izp z) rfl (eorA_frame _) (charge_frame _ _)) rfl⟩
  | eorZpx z => exact ⟨_, rfl, .within (read_does (o := .zpx z) rfl (eorA_frame _) (charge_frame _ _)) rfl⟩
  | eorAby a => exact ⟨_, rfl, .within (read_does (o := .aby a) rfl (eorA_frame _) (chargeCross_frame _ _)) rfl⟩
  | eorAbx a => exact ⟨_, rfl, .within (read_does (o := .abx a) rfl (eorA_frame _) (chargeCross_frame _ _)) rfl⟩
  | bitZp z => exact ⟨_, rfl, .within (read_does (o := .zp z) rfl (bitMem_frame _) (charge_frame _ _)) rfl⟩
  | bitAbs a => exact ⟨_, rfl, .within (read_does (o := .abs a) rfl (bitMem_frame _) (charge_frame _ _)) rfl⟩
  | bitZpx z => exact ⟨_, rfl, .within (read_does (o := .zpx z) rfl (bitMem_frame _) (charge_frame _ _)) rfl⟩
  | bitAbx a => exact ⟨_, rfl, .within (read_does (o := .abx a) rfl (bitMem_frame _) (chargeCross_frame _ _)) rfl⟩
  | bitImm _ => exact ⟨_, rfl, .within (.both (.of (bitImm_frame (_, s))) (charge_frame _ _)) rfl⟩
  | tsbZp z => exact ⟨_, rfl, .within (modifyAt_does (o := .zp z) rfl tsbByte_frame (charge_frame _ _)) rfl⟩
  | tsbAbs a => exact ⟨_, rfl, .within (modifyAt_does (o := .abs a) rfl tsbByte_frame (charge_frame _ _)) rfl⟩
  | trbZp z => exact ⟨_, rfl, .within (modifyAt_does (o := .zp z) rfl trbByte_frame (charge_frame _ _)) rfl⟩
  | trbAbs a => exact ⟨_, rfl, .within (modifyAt_does (o := .abs a) rfl trbByte_frame (charge_frame _ _)) rfl⟩
  | aslZp z => exact ⟨_, rfl, .within (modifyAt_does (o := .zp z) rfl aslByte_frame (charge_frame _ _)) rfl⟩
  | aslAcc => exact ⟨_, rfl, .within (modifyA_does aslByte_frame (charge_frame _ _)) rfl⟩
  | aslAbs a => exact ⟨_, rfl, .within (modifyAt_does (o := .abs a) rfl aslByte_frame (charge_frame _ _)) rfl⟩
  | aslZpx z => exact ⟨_, rfl, .within (modifyAt_does (o := .zpx z) rfl aslByte_frame (charge_frame _ _)) rfl⟩
  | aslAbx a => exact ⟨_, rfl, .within (modifyAt_does (o := .abx a) rfl aslByte_frame (chargeCross_frame _ _)) rfl⟩
  | lsrZp z => exact ⟨_, rfl, .within (modifyAt_does (o := .zp z) rfl lsrByte_frame (charge_frame _ _)) rfl⟩
  | lsrAcc => exact ⟨_, rfl, .within (modifyA_does lsrByte_frame (charge_frame _ _)) rfl⟩
  | lsrAbs a => exact ⟨_, rfl, .within (modifyAt_does (o := .abs a) rfl lsrByte_frame (charge_frame _ _)) rfl⟩
  | lsrZpx z => exact ⟨_, rfl, .within (modifyAt_does (o := .zpx z) rfl lsrByte_frame (charge_frame _ _)) rfl⟩
  | lsrAbx a => exact ⟨_, rfl, .within (modifyAt_does (o := .abx a) rfl lsrByte_frame (chargeCross_frame _ _)) rfl⟩
  | rolZp z => exact ⟨_, rfl, .within (modifyAt_does (o := .zp z) rfl rolByte_frame (charge_frame _ _)) rfl⟩
  | rolAcc => exact ⟨_, rfl, .within (modifyA_does rolByte_frame (charge_frame _ _)) rfl⟩
  | rolAbs a => exact ⟨_, rfl, .within (modifyAt_does (o := .abs a) rfl rolByte_frame (charge_frame _ _)) rfl⟩
  | rolZpx z => exact ⟨_, rfl, .within (modifyAt_does (o := .zpx z) rfl rolByte_frame (charge_frame _ _)) rfl⟩
  | rolAbx a => exact ⟨_, rfl, .within (modifyAt_does (o := .abx a) rfl rolByte_frame (chargeCross_frame _ _)) rfl⟩
  | rorZp z => exact ⟨_, rfl, .within (modifyAt_does (o := .zp z) rfl rorByte_frame (charge_frame _ _)) rfl⟩
  | rorAcc => exact ⟨_, rfl, .within (modifyA_does rorByte_frame (charge_frame _ _)) rfl⟩
  | rorAbs a => exact ⟨_, rfl, .within (modifyAt_does (o := .abs a) rfl rorByte_frame (charge_frame _ _)) rfl⟩
  | rorZpx z => exact ⟨_, rfl, .within (modifyAt_does (o := .zpx z) rfl rorByte_frame (charge_frame _ _)) rfl⟩
  | rorAbx a => exact ⟨_, rfl, .within (modifyAt_does (o := .abx a) rfl rorByte_frame (chargeCross_frame _ _)) rfl⟩
  | incAcc => exact ⟨_, rfl, .within (modifyA_does incByte_frame (charge_frame _ _)) rfl⟩
  | incZp z => exact ⟨_, rfl, .within (modifyAt_does (o := .zp z) rfl incByte_frame (charge_frame _ _)) rfl⟩
  | incAbs a => exact ⟨_, rfl, .within (modifyAt_does (o := .abs a) rfl incByte_frame (charge_frame _ _)) rfl⟩
  | incZpx z => exact ⟨_, rfl, .within (modifyAt_does (o := .zpx z) rfl incByte_frame (charge_frame _ _)) rfl⟩
  | incAbx a => exact ⟨_, rfl, .within (modifyAt_does (o := .abx a) rfl incByte_frame (charge_frame _ _)) rfl⟩
  | decAcc => exact ⟨_, rfl, .within (modifyA_does decByte_frame (charge_frame _ _)) rfl⟩
  | decZp z => exact ⟨_, rfl, .within (modifyAt_does (o := .zp z) rfl decByte_frame (charge_frame _ _)) rfl⟩
  | decAbs a => exact ⟨_, rfl, .within (modifyAt_does (o := .abs a) rfl decByte_frame (charge_frame _ _)) rfl⟩
  | decZpx z => exact ⟨_, rfl, .within (modifyAt_does (o := .zpx z) rfl decByte_frame (charge_frame _ _)) rfl⟩
  | decAbx a => exact ⟨_, rfl, .within (modifyAt_does (o := .abx a) rfl decByte_frame (charge_frame _ _)) rfl⟩
  | inx => exact ⟨_, rfl, .within (.both (.of (stepX_frame _ s)) (charge_frame _ _)) rfl⟩
  | iny => exact ⟨_, rfl, .within (.both (.of (stepY_frame _ s)) (charge_frame _ _)) rfl⟩
  | dex => exact ⟨_, rfl, .within (.both (.of (stepX_frame _ s)) (charge_frame _ _)) rfl⟩
  | dey => exact ⟨_, rfl, .within (.both (.of (stepY_frame _ s)) (charge_frame _ _)) rfl⟩
  | bcc _ => exact ⟨_, rfl, .within (.of (branchIf_frame _ _ _ s)) rfl⟩
  | bcs _ => exact ⟨_, rfl, .within (.of (branchIf_frame _ _ _ s)) rfl⟩
  | beq _ => exact ⟨_, rfl, .within (.of (branchIf_frame _ _ _ s)) rfl⟩
  | bne _ => exact ⟨_, rfl, .within (.of (branchIf_frame _ _ _ s)) rfl⟩
  | bmi _ => exact ⟨_, rfl, .within (.of (branchIf_frame _ _ _ s)) rfl⟩
  | bpl _ => exact ⟨_, rfl, .within (.of (branchIf_frame _ _ _ s)) rfl⟩
  | bvc _ => exact ⟨_, rfl, .within (.of (branchIf_frame _ _ _ s)) rfl⟩
  | bvs _ => exact ⟨_, rfl, .within (.of (branchIf_frame _ _ _ s)) rfl⟩
  | bra _ => exact ⟨_, rfl, .within (.of (branchIf_frame _ _ _ s)) rfl⟩
  | jmpAbs _ => exact ⟨_, rfl, .within (.both (.of (setPc_frame _ s)) (charge_frame _ _)) rfl⟩
  | jmpInd _ => exact ⟨_, rfl, .within (.both (.both (targetInd_does _ s) (jumpTo_frame _)) (charge_frame _ _)) rfl⟩
  | jmpIax _ => exact ⟨_, rfl, .within (.both (.both (targetIax_does _ s) (jumpTo_frame _)) (charge_frame _ _)) rfl⟩
  | jsr _ => exact ⟨_, rfl, .within (.both (jumpSubroutine_does _ s) (charge_frame _ _)) rfl⟩
  | rts => exact ⟨_, rfl, .within (.both (returnSubroutine_does s) (charge_frame _ _)) rfl⟩
  | brk => exact ⟨_, rfl, .within (brk_does s) rfl⟩
  | rti => exact ⟨_, rfl, .within (.both (returnFromInterrupt_does s) (charge_frame _ _)) rfl⟩
  | rmb0 z => exact ⟨_, rfl, .within (modifyAt_does (o := .zp z) rfl (rmbByte_frame _) (charge_frame _ _)) rfl⟩
  | rmb1 z => exact ⟨_, rfl, .within (modifyAt_does (o := .zp z) rfl (rmbByte_frame _) (charge_frame _ _)) rfl⟩
  | rmb2 z => exact ⟨_, rfl, .within (modifyAt_does (o := .zp z) rfl (rmbByte_frame _) (charge_frame _ _)) rfl⟩
  | rmb3 z => exact ⟨_, rfl, .within (modifyAt_does (o := .zp z) rfl (rmbByte_frame _) (charge_frame _ _)) rfl⟩
  | rmb4 z => exact ⟨_, rfl, .within (modifyAt_does (o := .zp z) rfl (rmbByte_frame _) (charge_frame _ _)) rfl⟩
  | rmb5 z => exact ⟨_, rfl, .within (modifyAt_does (o := .zp z) rfl (rmbByte_frame _) (charge_frame _ _)) rfl⟩
  | rmb6 z => exact ⟨_, rfl, .within (modifyAt_does (o := .zp z) rfl (rmbByte_frame _) (charge_frame _ _)) rfl⟩
  | rmb7 z => exact ⟨_, rfl, .within (modifyAt_does (o := .zp z) rfl (rmbByte_frame _) (charge_frame _ _)) rfl⟩
  | smb0 z => exact ⟨_, rfl, .within (modifyAt_does (o := .zp z) rfl (smbByte_frame _) (charge_frame _ _)) rfl⟩
  | smb1 z => exact ⟨_, rfl, .within (modifyAt_does (o := .zp z) rfl (smbByte_frame _) (charge_frame _ _)) rfl⟩
  | smb2 z => exact ⟨_, rfl, .within (modifyAt_does (o := .zp z) rfl (smbByte_frame _) (charge_frame _ _)) rfl⟩
  | smb3 z => exact ⟨_, rfl, .within (modifyAt_does (o := .zp z) rfl (smbByte_frame _) (charge_frame _ _)) rfl⟩
  | smb4 z => exact ⟨_, rfl, .within (modifyAt_does (o := .zp z) rfl (smbByte_frame _) (charge_frame _ _)) rfl⟩
  | smb5 z => exact ⟨_, rfl, .within (modifyAt_does (o := .zp z) rfl (smbByte_frame _) (charge_frame _ _)) rfl⟩
  | smb6 z => exact ⟨_, rfl, .within (modifyAt_does (o := .zp z) rfl (smbByte_frame _) (charge_frame _ _)) rfl⟩
  | smb7 z => exact ⟨_, rfl, .within (modifyAt_does (o := .zp z) rfl (smbByte_frame _) (charge_frame _ _)) rfl⟩
  | bbr0 _ _ => exact ⟨_, rfl, .within (branchBit_does _ _ _ s) rfl⟩
  | bbr1 _ _ => exact ⟨_, rfl, .within (branchBit_does _ _ _ s) rfl⟩
  | bbr2 _ _ => exact ⟨_, rfl, .within (branchBit_does _ _ _ s) rfl⟩
  | bbr3 _ _ => exact ⟨_, rfl, .within (branchBit_does _ _ _ s) rfl⟩
  | bbr4 _ _ => exact ⟨_, rfl, .within (branchBit_does _ _ _ s) rfl⟩
  | bbr5 _ _ => exact ⟨_, rfl, .within (branchBit_does _ _ _ s) rfl⟩
  | bbr6 _ _ => exact ⟨_, rfl, .within (branchBit_does _ _ _ s) rfl⟩
  | bbr7 _ _ => exact ⟨_, rfl, .within (branchBit_does _ _ _ s) rfl⟩
  | bbs0 _ _ => exact ⟨_, rfl, .within (branchBit_does _ _ _ s) rfl⟩
  | bbs1 _ _ => exact ⟨_, rfl, .within (branchBit_does _ _ _ s) rfl⟩
  | bbs2 _ _ => exact ⟨_, rfl, .within (branchBit_does _ _ _ s) rfl⟩
  | bbs3 _ _ => exact ⟨_, rfl, .within (branchBit_does _ _ _ s) rfl⟩
  | bbs4 _ _ => exact ⟨_, rfl, .within (branchBit_does _ _ _ s) rfl⟩
  | bbs5 _ _ => exact ⟨_, rfl, .within (branchBit_does _ _ _ s) rfl⟩
  | bbs6 _ _ => exact ⟨_, rfl, .within (branchBit_does _ _ _ s) rfl⟩
  | bbs7 _ _ => exact ⟨_, rfl, .within (branchBit_does _ _ _ s) rfl⟩
  | tax => exact ⟨_, rfl, .within (.both (.of (loadX_frame (_, s))) (charge_frame _ _)) rfl⟩
  | tay => exact ⟨_, rfl, .within (.both (.of (loadY_frame (_, s))) (charge_frame _ _)) rfl⟩
  | txa => exact ⟨_, rfl, .within (.both (.of (loadA_frame (_, s))) (charge_frame _ _)) rfl⟩
  | tya => exact ⟨_, rfl, .within (.both (.of (loadA_frame (_, s))) (charge_frame _ _)) rfl⟩
  | tsx => exact ⟨_, rfl, .within (.both (.of (loadX_frame (_, s))) (charge_frame _ _)) rfl⟩
  | txs => exact ⟨_, rfl, .within (.both (.of (setSp_frame _ s)) (charge_frame _ _)) rfl⟩
  | pha => exact ⟨_, rfl, .within (.both (push_does _ s) (charge_frame _ _)) rfl⟩
  | pla => exact ⟨_, rfl, .within (.both (.both (pull_does s) (loadA_frame _)) (charge_frame _ _)) rfl⟩
  | phx => exact ⟨_, rfl, .within (.both (push_does _ s) (charge_frame _ _)) rfl⟩
  | plx => exact ⟨_, rfl, .within (.both (.both (pull_does s) (loadX_frame _)) (charge_frame _ _)) rfl⟩
  | phy => exact ⟨_, rfl, .within (.both (push_does _ s) (charge_frame _ _)) rfl⟩
  | ply => exact ⟨_, rfl, .within (.both (.both (pull_does s) (loadY_frame _)) (charge_frame _ _)) rfl⟩
  | php => exact ⟨_, rfl, .within (.both (push_does _ s) (charge_frame _ _)) rfl⟩
  | plp => exact ⟨_, rfl, .within (.both (.both (pull_does s) (unpack_frame _ _)) (charge_frame _ _)) rfl⟩
  | clc => exact ⟨_, rfl, .within (.both (.of (flagC_frame _ s)) (charge_frame _ _)) rfl⟩
  | sec => exact ⟨_, rfl, .within (.both (.of (flagC_frame _ s)) (charge_frame _ _)) rfl⟩
  | cli => exact ⟨_, rfl, .within (.both (.of (flagI_frame _ s)) (charge_frame _ _)) rfl⟩
  | sei => exact ⟨_, rfl, .within (.both (.of (flagI_frame _ s)) (charge_frame _ _)) rfl⟩
  | cld => exact ⟨_, rfl, .within (.both (.of (flagD_frame _ s)) (charge_frame _ _)) rfl⟩
  | sed => exact ⟨_, rfl, .within (.both (.of (flagD_frame _ s)) (charge_frame _ _)) rfl⟩
  | clv => exact ⟨_, rfl, .within (.both (.of (flagV_frame _ s)) (charge_frame _ _)) rfl⟩
  | nop02 _ => exact ⟨_, rfl, .within (.of (charge_frame _ _)) rfl⟩
  | nop22 _ => exact ⟨_, rfl, .within (.of (charge_frame _ _)) rfl⟩
  | nop42 _ => exact ⟨_, rfl, .within (.of (charge_frame _ _)) rfl⟩
  | nop44 _ => exact ⟨_, rfl, .within (.of (charge_frame _ _)) rfl⟩
  | nop54 _ => exact ⟨_, rfl, .within (.of (charge_frame _ _)) rfl⟩
  | nop5C _ => exact ⟨_, rfl, .within (.of (charge_frame _ _)) rfl⟩
  | nop62 _ => exact ⟨_, rfl, .within (.of (charge_frame _ _)) rfl⟩
  | nop82 _ => exact ⟨_, rfl, .within (.of (charge_frame _ _)) rfl⟩
  | nopC2 _ => exact ⟨_, rfl, .within (.of (charge_frame _ _)) rfl⟩
  | nopD4 _ => exact ⟨_, rfl, .within (.of (charge_frame _ _)) rfl⟩
  | nopDC _ => exact ⟨_, rfl, .within (.of (charge_frame _ _)) rfl⟩
  | nopE2 _ => exact ⟨_, rfl, .within (.of (charge_frame _ _)) rfl⟩
  | nopF4 _ => exact ⟨_, rfl, .within (.of (charge_frame _ _)) rfl⟩
  | nopFC _ => exact ⟨_, rfl, .within (.of (charge_frame _ _)) rfl⟩
  | nop03 => exact ⟨_, rfl, .within (.of (charge_frame _ _)) rfl⟩
  | nop0B => exact ⟨_, rfl, .within (.of (charge_frame _ _)) rfl⟩
  | nop13 => exact ⟨_, rfl, .within (.of (charge_frame _ _)) rfl⟩
  | nop1B => exact ⟨_, rfl, .within (.of (charge_frame _ _)) rfl⟩
  | nop23 => exact ⟨_, rfl, .within (.of (charge_frame _ _)) rfl⟩
  | nop2B => exact ⟨_, rfl, .within (.of (charge_frame _ _)) rfl⟩
  | nop33 => exact ⟨_, rfl, .within (.of (charge_frame _ _)) rfl⟩
  | nop3B => exact ⟨_, rfl, .within (.of (charge_frame _ _)) rfl⟩
  | nop43 => exact ⟨_, rfl, .within (.of (charge_frame _ _)) rfl⟩
  | nop4B => exact ⟨_, rfl, .within (.of (charge_frame _ _)) rfl⟩
  | nop53 => exact ⟨_, rfl, .within (.of (charge_frame _ _)) rfl⟩
  | nop5B => exact ⟨_, rfl, .within (.of (charge_frame _ _)) rfl⟩
  | nop63 => exact ⟨_, rfl, .within (.of (charge_frame _ _)) rfl⟩
  | nop6B => exact ⟨_, rfl, .within (.of (charge_frame _ _)) rfl⟩
  | nop73 => exact ⟨_, rfl, .within (.of (charge_frame _ _)) rfl⟩
  | nop7B => exact ⟨_, rfl, .within (.of (charge_frame _ _)) rfl⟩
  | nop83 => exact ⟨_, rfl, .within (.of (charge_frame _ _)) rfl⟩
  | nop8B => exact ⟨_, rfl, .within (.of (charge_frame _ _)) rfl⟩
  | nop93 => exact ⟨_, rfl, .within (.of (charge_frame _ _)) rfl⟩
  | nop9B => exact ⟨_, rfl, .within (.of (charge_frame _ _)) rfl⟩
  | nopA3 => exact ⟨_, rfl, .within (.of (charge_frame _ _)) rfl⟩
  | nopAB => exact ⟨_, rfl, .within (.of (charge_frame _ _)) rfl⟩
  | nopB3 => exact ⟨_, rfl, .within (.of (charge_frame _ _)) rfl⟩
  | nopBB => exact ⟨_, rfl, .within (.of (charge_frame _ _)) rfl⟩
  | nopC3 => exact ⟨_, rfl, .within (.of (charge_frame _ _)) rfl⟩
  | nopD3 => exact ⟨_, rfl, .within (.of (charge_frame _ _)) rfl⟩
  | nopE3 => exact ⟨_, rfl, .within (.of (charge_frame _ _)) rfl⟩
  | nop => exact ⟨_, rfl, .within (.of (charge_frame _ _)) rfl⟩
  | nopEB => exact ⟨_, rfl, .within (.of (charge_frame _ _)) rfl⟩
  | nopF3 => exact ⟨_, rfl, .within (.of (charge_frame _ _)) rfl⟩
  | nopFB => exact ⟨_, rfl, .within (.of (charge_frame _ _)) rfl⟩
  | unimplementedCB => exact ⟨_, rfl, .within (.of (unimplementedOpcode_frame _ s)) rfl⟩
  | unimplementedDB => exact ⟨_, rfl, .within (.of (unimplementedOpcode_frame _ s)) rfl⟩

theorem exec_frame {i : Instr} {s t : State} (h : exec i s = .next t) :
    Unchanged (writes i.mnemonic) s t := by
  obtain ⟨u, hu, hd⟩ := exec_does i s
  cases h.symm.trans hu
  exact hd.1

/-- What every bus access keeps, every instruction keeps. -/
theorem exec_bus {P : Bus → Prop} (read : ∀ b a, P b → P (b.read a).2)
    (write : ∀ b a v, P b → P (b.write a v))
    (zpr : ∀ (s : State) z, P s.bus → P (readZpr z s).2.bus) {i : Instr} {s t : State}
    (h : exec i s = .next t) (hs : P s.bus) : P t.bus := by
  obtain ⟨u, hu, hd⟩ := exec_does i s
  cases h.symm.trans hu
  have key : ∀ c, s.bus.Reaches c → P c := fun c hc => by
    induction hc with
    | refl => exact hs
    | read a _ ih => exact read _ a ih
    | write a v _ ih => exact write _ a v ih
    | readZpr z _ ih => exact zpr _ z ih
  exact key _ hd.2

end Sys2Proof.Machine
end

