-- ==== Sys2Proof/Laws/HostMoves.lean ====
section
/-! SUPPORT. What the operations between steps can do, each said once: sets held as lists, the card's entries of the
dispatch table, `load` and the configuration, a configured decimal function, and the close of a boundary. -/

namespace Sys2Proof.Machine

/-! ### Sets held as lists -/

theorem mem_addOnce {α : Type} [DecidableEq α] {x y : α} {l : List α} :
    y ∈ addOnce x l ↔ y ∈ l ∨ y = x := by
  unfold addOnce
  split
  · rename_i h
    exact ⟨.inl, fun hy => hy.elim id fun e => e ▸ h⟩
  · simp

theorem mem_takeOut {α : Type} [DecidableEq α] {x y : α} {l : List α} :
    y ∈ takeOut x l ↔ y ∈ l ∧ y ≠ x := by simp [takeOut]

theorem nodup_addOnce {α : Type} [DecidableEq α] (x : α) {l : List α} (h : l.Nodup) :
    (addOnce x l).Nodup := by
  unfold addOnce
  split
  · exact h
  · rename_i hx
    exact h.append (by simp) (by simpa using hx)

theorem nodup_takeOut {α : Type} [DecidableEq α] (x : α) {l : List α} (h : l.Nodup) :
    (takeOut x l).Nodup := h.filter _

/-! ### The dispatch table and the images -/

/-- The entries that no registration takes, with `LC_BASE` = $C080. -/
theorem Bus.isCardEntry_iff {b : Bus} (hb : b.params.lcBase = 0xC080) (e : Byte) :
    b.isCardEntry e = true ↔ 0x80 ≤ e.toNat ∧ e.toNat ≤ 0x8F := by
  have h := e.isLt
  have he : (0xC000 + e.setWidth 16 : Word).toNat = 0xC000 + e.toNat := by
    rw [BitVec.toNat_add]
    simp
    omega
  rw [Bus.isCardEntry, Bus.isSwitch_iff hb, he]
  omega

/-- `load` changes the bus as pokes do: one field at a time, whatever a poke keeps it keeps. -/
theorem loadBytes_keeps {P : Bus → Prop} (bank : Option Store)
    (hp : ∀ b st i v a, loadCell bank a = some (st, i) → P b → P (b.poke st i v)) (data : List Byte) :
    ∀ (a : Word) (b : Bus), P b → P (loadBytes bank a data b) := by
  induction data with
  | nil => exact fun _ _ h => h
  | cons v data ih =>
    intro a b h
    refine ih _ _ ?_
    split
    · rename_i hc
      exact hp _ _ _ _ _ hc h
    · exact h

theorem loadBytes_params (bank : Option Store) (a : Word) (data : List Byte) (b : Bus) :
    (loadBytes bank a data b).params = b.params :=
  loadBytes_keeps (P := fun c => c.params = b.params) bank
    (fun _ _ _ _ _ _ h => by simpa [Bus.poke] using h) data a b rfl

/-! ### The configured decimal functions -/

theorem configured_nil (f : Byte → Byte → Bool → Byte × Bool) (a m : Byte) (c : Bool) :
    configured [] f a m c = f a m c := rfl

theorem configured_cons (e : Config.DecCase) (cases : List Config.DecCase)
    (f : Byte → Byte → Bool → Byte × Bool) (a m : Byte) (c : Bool) :
    configured (e :: cases) f a m c =
      if e.a = a ∧ e.m = m ∧ e.c = c then (e.r, e.cOut) else configured cases f a m c := by
  by_cases h : e.a = a ∧ e.m = m ∧ e.c = c
  · simp [configured, h]
  · have : (e.a == a && e.m == m && e.c == c) = false := by
      rw [Bool.eq_false_iff]
      simpa [and_assoc] using h
    simp [configured, this, h]

/-! ### The close of a boundary -/

theorem closeBoundary_stopped {s : State} (h : s.run = .stopped) :
    closeBoundary s =
      { s with firstBoundary := false, singleStep := false, pauseRequest := false } := by
  simp only [closeBoundary, h]

theorem closeBoundary_running {s : State} (h : s.run = .running) (hs : s.singleStep = false) :
    closeBoundary s = { s with firstBoundary := false, singleStep := false } := by
  simp only [closeBoundary, h, hs, Bool.false_eq_true, if_false]

theorem closeBoundary_singleStep {s : State} (h : s.run = .running) (hs : s.singleStep = true) :
    closeBoundary s =
      { s with
        run := .stopped
        stopReason := .paused
        firstBoundary := false
        singleStep := false
        pauseRequest := false } := by
  simp only [closeBoundary, h, hs, if_true, halt]

end Sys2Proof.Machine
end

