-- ==== Sys2Proof/Tests/Slice0.lean ====
section
/-! SUPPORT. The model's own tests: the checks of `WellFormed`, the decoding of every row of the opcode table
from its word, one small step per instruction with the values the spec's rules and vectors give, and for
every statement with hypotheses a state and operands that meet them. -/

namespace Sys2Proof.Tests
open Sys2Proof Sys2Proof.Machine Sys2Proof.Claims

/-! ### Small states -/

/-- The start state of the spec's vectors (95_test_vectors.md section 2): running at `pc`, SP = $FF, every flag
0, with an instruction's bytes at `pc` and single bytes in RAM or ROM. -/
def ready (pc : Word) (bytes : List Byte) (cells : List (Word × Byte)) : State :=
  { State.reset with
    sp := 0xFF
    flagI := false
    pc := pc
    run := .running
    bus := cells.foldl (fun b c => loadBytes none c.1 [c.2] b) (loadBytes none pc bytes Bus.reset) }

/-- What is seen of the state after one step from `f s`; nothing if the step faults or refuses. -/
def ran {α : Type} (s : State) (f : State → State) (see : State → α) : Option α :=
  match step (f s) with
  | .next t => some (see t)
  | .fault _ => none
  | .refused _ => none

/-! ### WellFormed: a displacement that no byte holds is refused (R103) -/

theorem test_wellFormed_refuses_rel_128 : ¬ WellFormed (.bra 128) := by decide

theorem test_wellFormed_refuses_rel_below : ¬ WellFormed (.beq (-129)) := by decide

theorem test_wellFormed_refuses_zpr_128 : ¬ WellFormed (.bbr0 0x20 128) := by decide

theorem test_wellFormed_refuses_zpr_below : ¬ WellFormed (.bbs7 0x20 (-129)) := by decide

theorem test_wellFormed_accepts_the_ends :
    WellFormed (.bra 127) ∧ WellFormed (.bra (-128)) ∧ WellFormed (.bbs7 0xFF (-128)) ∧
      WellFormed (.bbr0 0x00 127) := by decide

/-! ### Decoding: every row of spec/opcode_table.json, from the word its `match`, `format` and `fields` give,
with operand bytes $12 and $83 -/

theorem test_decode_implied :
    decodeTableWord 24 0x831200 = some (.brk) ∧
    decodeTableWord 24 0x831208 = some (.php) ∧
    decodeTableWord 24 0x831218 = some (.clc) ∧
    decodeTableWord 24 0x831228 = some (.plp) ∧
    decodeTableWord 24 0x831238 = some (.sec) ∧
    decodeTableWord 24 0x831240 = some (.rti) ∧
    decodeTableWord 24 0x831248 = some (.pha) ∧
    decodeTableWord 24 0x831258 = some (.cli) ∧
    decodeTableWord 24 0x83125A = some (.phy) ∧
    decodeTableWord 24 0x831260 = some (.rts) ∧
    decodeTableWord 24 0x831268 = some (.pla) ∧
    decodeTableWord 24 0x831278 = some (.sei) ∧
    decodeTableWord 24 0x83127A = some (.ply) ∧
    decodeTableWord 24 0x831288 = some (.dey) ∧
    decodeTableWord 24 0x83128A = some (.txa) ∧
    decodeTableWord 24 0x831298 = some (.tya) := by decide

theorem test_decode_implied_2 :
    decodeTableWord 24 0x83129A = some (.txs) ∧
    decodeTableWord 24 0x8312A8 = some (.tay) ∧
    decodeTableWord 24 0x8312AA = some (.tax) ∧
    decodeTableWord 24 0x8312B8 = some (.clv) ∧
    decodeTableWord 24 0x8312BA = some (.tsx) ∧
    decodeTableWord 24 0x8312C8 = some (.iny) ∧
    decodeTableWord 24 0x8312CA = some (.dex) ∧
    decodeTableWord 24 0x8312D8 = some (.cld) ∧
    decodeTableWord 24 0x8312DA = some (.phx) ∧
    decodeTableWord 24 0x8312E8 = some (.inx) ∧
    decodeTableWord 24 0x8312F8 = some (.sed) ∧
    decodeTableWord 24 0x8312FA = some (.plx) := by decide

theorem test_decode_ora :
    decodeTableWord 24 0x831201 = some (.oraIzx 0x12) ∧
    decodeTableWord 24 0x831205 = some (.oraZp 0x12) ∧
    decodeTableWord 24 0x831209 = some (.oraImm 0x12) ∧
    decodeTableWord 24 0x83120D = some (.oraAbs 0x8312) ∧
    decodeTableWord 24 0x831211 = some (.oraIzy 0x12) ∧
    decodeTableWord 24 0x831212 = some (.oraIzp 0x12) ∧
    decodeTableWord 24 0x831215 = some (.oraZpx 0x12) ∧
    decodeTableWord 24 0x831219 = some (.oraAby 0x8312) ∧
    decodeTableWord 24 0x83121D = some (.oraAbx 0x8312) := by decide

theorem test_decode_nop_imm :
    decodeTableWord 24 0x831202 = some (.nop02 0x12) ∧
    decodeTableWord 24 0x831222 = some (.nop22 0x12) ∧
    decodeTableWord 24 0x831242 = some (.nop42 0x12) ∧
    decodeTableWord 24 0x831262 = some (.nop62 0x12) ∧
    decodeTableWord 24 0x831282 = some (.nop82 0x12) ∧
    decodeTableWord 24 0x8312C2 = some (.nopC2 0x12) ∧
    decodeTableWord 24 0x8312E2 = some (.nopE2 0x12) := by decide

theorem test_decode_nop_imp :
    decodeTableWord 24 0x831203 = some (.nop03) ∧
    decodeTableWord 24 0x83120B = some (.nop0B) ∧
    decodeTableWord 24 0x831213 = some (.nop13) ∧
    decodeTableWord 24 0x83121B = some (.nop1B) ∧
    decodeTableWord 24 0x831223 = some (.nop23) ∧
    decodeTableWord 24 0x83122B = some (.nop2B) ∧
    decodeTableWord 24 0x831233 = some (.nop33) ∧
    decodeTableWord 24 0x83123B = some (.nop3B) ∧
    decodeTableWord 24 0x831243 = some (.nop43) ∧
    decodeTableWord 24 0x83124B = some (.nop4B) ∧
    decodeTableWord 24 0x831253 = some (.nop53) ∧
    decodeTableWord 24 0x83125B = some (.nop5B) ∧
    decodeTableWord 24 0x831263 = some (.nop63) ∧
    decodeTableWord 24 0x83126B = some (.nop6B) ∧
    decodeTableWord 24 0x831273 = some (.nop73) ∧
    decodeTableWord 24 0x83127B = some (.nop7B) := by decide

theorem test_decode_nop_imp_2 :
    decodeTableWord 24 0x831283 = some (.nop83) ∧
    decodeTableWord 24 0x83128B = some (.nop8B) ∧
    decodeTableWord 24 0x831293 = some (.nop93) ∧
    decodeTableWord 24 0x83129B = some (.nop9B) ∧
    decodeTableWord 24 0x8312A3 = some (.nopA3) ∧
    decodeTableWord 24 0x8312AB = some (.nopAB) ∧
    decodeTableWord 24 0x8312B3 = some (.nopB3) ∧
    decodeTableWord 24 0x8312BB = some (.nopBB) ∧
    decodeTableWord 24 0x8312C3 = some (.nopC3) ∧
    decodeTableWord 24 0x8312D3 = some (.nopD3) ∧
    decodeTableWord 24 0x8312E3 = some (.nopE3) ∧
    decodeTableWord 24 0x8312EA = some (.nop) ∧
    decodeTableWord 24 0x8312EB = some (.nopEB) ∧
    decodeTableWord 24 0x8312F3 = some (.nopF3) ∧
    decodeTableWord 24 0x8312FB = some (.nopFB) := by decide

theorem test_decode_tsb :
    decodeTableWord 24 0x831204 = some (.tsbZp 0x12) ∧
    decodeTableWord 24 0x83120C = some (.tsbAbs 0x8312) := by decide

theorem test_decode_asl :
    decodeTableWord 24 0x831206 = some (.aslZp 0x12) ∧
    decodeTableWord 24 0x83120A = some (.aslAcc) ∧
    decodeTableWord 24 0x83120E = some (.aslAbs 0x8312) ∧
    decodeTableWord 24 0x831216 = some (.aslZpx 0x12) ∧
    decodeTableWord 24 0x83121E = some (.aslAbx 0x8312) := by decide

theorem test_decode_rmb :
    decodeTableWord 24 0x831207 = some (.rmb0 0x12) ∧
    decodeTableWord 24 0x831217 = some (.rmb1 0x12) ∧
    decodeTableWord 24 0x831227 = some (.rmb2 0x12) ∧
    decodeTableWord 24 0x831237 = some (.rmb3 0x12) ∧
    decodeTableWord 24 0x831247 = some (.rmb4 0x12) ∧
    decodeTableWord 24 0x831257 = some (.rmb5 0x12) ∧
    decodeTableWord 24 0x831267 = some (.rmb6 0x12) ∧
    decodeTableWord 24 0x831277 = some (.rmb7 0x12) := by decide

theorem test_decode_bbr :
    decodeTableWord 24 0x83120F = some (.bbr0 0x12 (-125)) ∧
    decodeTableWord 24 0x83121F = some (.bbr1 0x12 (-125)) ∧
    decodeTableWord 24 0x83122F = some (.bbr2 0x12 (-125)) ∧
    decodeTableWord 24 0x83123F = some (.bbr3 0x12 (-125)) ∧
    decodeTableWord 24 0x83124F = some (.bbr4 0x12 (-125)) ∧
    decodeTableWord 24 0x83125F = some (.bbr5 0x12 (-125)) ∧
    decodeTableWord 24 0x83126F = some (.bbr6 0x12 (-125)) ∧
    decodeTableWord 24 0x83127F = some (.bbr7 0x12 (-125)) := by decide

theorem test_decode_branches :
    decodeTableWord 24 0x831210 = some (.bpl 18) ∧
    decodeTableWord 24 0x831230 = some (.bmi 18) ∧
    decodeTableWord 24 0x831250 = some (.bvc 18) ∧
    decodeTableWord 24 0x831270 = some (.bvs 18) ∧
    decodeTableWord 24 0x831280 = some (.bra 18) ∧
    decodeTableWord 24 0x831290 = some (.bcc 18) ∧
    decodeTableWord 24 0x8312B0 = some (.bcs 18) ∧
    decodeTableWord 24 0x8312D0 = some (.bne 18) ∧
    decodeTableWord 24 0x8312F0 = some (.beq 18) := by decide

theorem test_decode_trb :
    decodeTableWord 24 0x831214 = some (.trbZp 0x12) ∧
    decodeTableWord 24 0x83121C = some (.trbAbs 0x8312) := by decide

theorem test_decode_inc :
    decodeTableWord 24 0x83121A = some (.incAcc) ∧
    decodeTableWord 24 0x8312E6 = some (.incZp 0x12) ∧
    decodeTableWord 24 0x8312EE = some (.incAbs 0x8312) ∧
    decodeTableWord 24 0x8312F6 = some (.incZpx 0x12) ∧
    decodeTableWord 24 0x8312FE = some (.incAbx 0x8312) := by decide

theorem test_decode_jsr :
    decodeTableWord 24 0x831220 = some (.jsr 0x8312) := by decide

theorem test_decode_and :
    decodeTableWord 24 0x831221 = some (.andIzx 0x12) ∧
    decodeTableWord 24 0x831225 = some (.andZp 0x12) ∧
    decodeTableWord 24 0x831229 = some (.andImm 0x12) ∧
    decodeTableWord 24 0x83122D = some (.andAbs 0x8312) ∧
    decodeTableWord 24 0x831231 = some (.andIzy 0x12) ∧
    decodeTableWord 24 0x831232 = some (.andIzp 0x12) ∧
    decodeTableWord 24 0x831235 = some (.andZpx 0x12) ∧
    decodeTableWord 24 0x831239 = some (.andAby 0x8312) ∧
    decodeTableWord 24 0x83123D = some (.andAbx 0x8312) := by decide

theorem test_decode_bit :
    decodeTableWord 24 0x831224 = some (.bitZp 0x12) ∧
    decodeTableWord 24 0x83122C = some (.bitAbs 0x8312) ∧
    decodeTableWord 24 0x831234 = some (.bitZpx 0x12) ∧
    decodeTableWord 24 0x83123C = some (.bitAbx 0x8312) ∧
    decodeTableWord 24 0x831289 = some (.bitImm 0x12) := by decide

theorem test_decode_rol :
    decodeTableWord 24 0x831226 = some (.rolZp 0x12) ∧
    decodeTableWord 24 0x83122A = some (.rolAcc) ∧
    decodeTableWord 24 0x83122E = some (.rolAbs 0x8312) ∧
    decodeTableWord 24 0x831236 = some (.rolZpx 0x12) ∧
    decodeTableWord 24 0x83123E = some (.rolAbx 0x8312) := by decide

theorem test_decode_dec :
    decodeTableWord 24 0x83123A = some (.decAcc) ∧
    decodeTableWord 24 0x8312C6 = some (.decZp 0x12) ∧
    decodeTableWord 24 0x8312CE = some (.decAbs 0x8312) ∧
    decodeTableWord 24 0x8312D6 = some (.decZpx 0x12) ∧
    decodeTableWord 24 0x8312DE = some (.decAbx 0x8312) := by decide

theorem test_decode_eor :
    decodeTableWord 24 0x831241 = some (.eorIzx 0x12) ∧
    decodeTableWord 24 0x831245 = some (.eorZp 0x12) ∧
    decodeTableWord 24 0x831249 = some (.eorImm 0x12) ∧
    decodeTableWord 24 0x83124D = some (.eorAbs 0x8312) ∧
    decodeTableWord 24 0x831251 = some (.eorIzy 0x12) ∧
    decodeTableWord 24 0x831252 = some (.eorIzp 0x12) ∧
    decodeTableWord 24 0x831255 = some (.eorZpx 0x12) ∧
    decodeTableWord 24 0x831259 = some (.eorAby 0x8312) ∧
    decodeTableWord 24 0x83125D = some (.eorAbx 0x8312) := by decide

theorem test_decode_nop_zp :
    decodeTableWord 24 0x831244 = some (.nop44 0x12) := by decide

theorem test_decode_lsr :
    decodeTableWord 24 0x831246 = some (.lsrZp 0x12) ∧
    decodeTableWord 24 0x83124A = some (.lsrAcc) ∧
    decodeTableWord 24 0x83124E = some (.lsrAbs 0x8312) ∧
    decodeTableWord 24 0x831256 = some (.lsrZpx 0x12) ∧
    decodeTableWord 24 0x83125E = some (.lsrAbx 0x8312) := by decide

theorem test_decode_jmp :
    decodeTableWord 24 0x83124C = some (.jmpAbs 0x8312) ∧
    decodeTableWord 24 0x83126C = some (.jmpInd 0x8312) ∧
    decodeTableWord 24 0x83127C = some (.jmpIax 0x8312) := by decide

theorem test_decode_nop_zpx :
    decodeTableWord 24 0x831254 = some (.nop54 0x12) ∧
    decodeTableWord 24 0x8312D4 = some (.nopD4 0x12) ∧
    decodeTableWord 24 0x8312F4 = some (.nopF4 0x12) := by decide

theorem test_decode_nop_abs :
    decodeTableWord 24 0x83125C = some (.nop5C 0x8312) ∧
    decodeTableWord 24 0x8312DC = some (.nopDC 0x8312) ∧
    decodeTableWord 24 0x8312FC = some (.nopFC 0x8312) := by decide

theorem test_decode_adc :
    decodeTableWord 24 0x831261 = some (.adcIzx 0x12) ∧
    decodeTableWord 24 0x831265 = some (.adcZp 0x12) ∧
    decodeTableWord 24 0x831269 = some (.adcImm 0x12) ∧
    decodeTableWord 24 0x83126D = some (.adcAbs 0x8312) ∧
    decodeTableWord 24 0x831271 = some (.adcIzy 0x12) ∧
    decodeTableWord 24 0x831272 = some (.adcIzp 0x12) ∧
    decodeTableWord 24 0x831275 = some (.adcZpx 0x12) ∧
    decodeTableWord 24 0x831279 = some (.adcAby 0x8312) ∧
    decodeTableWord 24 0x83127D = some (.adcAbx 0x8312) := by decide

theorem test_decode_stz :
    decodeTableWord 24 0x831264 = some (.stzZp 0x12) ∧
    decodeTableWord 24 0x831274 = some (.stzZpx 0x12) ∧
    decodeTableWord 24 0x83129C = some (.stzAbs 0x8312) ∧
    decodeTableWord 24 0x83129E = some (.stzAbx 0x8312) := by decide

theorem test_decode_ror :
    decodeTableWord 24 0x831266 = some (.rorZp 0x12) ∧
    decodeTableWord 24 0x83126A = some (.rorAcc) ∧
    decodeTableWord 24 0x83126E = some (.rorAbs 0x8312) ∧
    decodeTableWord 24 0x831276 = some (.rorZpx 0x12) ∧
    decodeTableWord 24 0x83127E = some (.rorAbx 0x8312) := by decide

theorem test_decode_sta :
    decodeTableWord 24 0x831281 = some (.staIzx 0x12) ∧
    decodeTableWord 24 0x831285 = some (.staZp 0x12) ∧
    decodeTableWord 24 0x83128D = some (.staAbs 0x8312) ∧
    decodeTableWord 24 0x831291 = some (.staIzy 0x12) ∧
    decodeTableWord 24 0x831292 = some (.staIzp 0x12) ∧
    decodeTableWord 24 0x831295 = some (.staZpx 0x12) ∧
    decodeTableWord 24 0x831299 = some (.staAby 0x8312) ∧
    decodeTableWord 24 0x83129D = some (.staAbx 0x8312) := by decide

theorem test_decode_sty :
    decodeTableWord 24 0x831284 = some (.styZp 0x12) ∧
    decodeTableWord 24 0x83128C = some (.styAbs 0x8312) ∧
    decodeTableWord 24 0x831294 = some (.styZpx 0x12) := by decide

theorem test_decode_stx :
    decodeTableWord 24 0x831286 = some (.stxZp 0x12) ∧
    decodeTableWord 24 0x83128E = some (.stxAbs 0x8312) ∧
    decodeTableWord 24 0x831296 = some (.stxZpy 0x12) := by decide

theorem test_decode_smb :
    decodeTableWord 24 0x831287 = some (.smb0 0x12) ∧
    decodeTableWord 24 0x831297 = some (.smb1 0x12) ∧
    decodeTableWord 24 0x8312A7 = some (.smb2 0x12) ∧
    decodeTableWord 24 0x8312B7 = some (.smb3 0x12) ∧
    decodeTableWord 24 0x8312C7 = some (.smb4 0x12) ∧
    decodeTableWord 24 0x8312D7 = some (.smb5 0x12) ∧
    decodeTableWord 24 0x8312E7 = some (.smb6 0x12) ∧
    decodeTableWord 24 0x8312F7 = some (.smb7 0x12) := by decide

theorem test_decode_bbs :
    decodeTableWord 24 0x83128F = some (.bbs0 0x12 (-125)) ∧
    decodeTableWord 24 0x83129F = some (.bbs1 0x12 (-125)) ∧
    decodeTableWord 24 0x8312AF = some (.bbs2 0x12 (-125)) ∧
    decodeTableWord 24 0x8312BF = some (.bbs3 0x12 (-125)) ∧
    decodeTableWord 24 0x8312CF = some (.bbs4 0x12 (-125)) ∧
    decodeTableWord 24 0x8312DF = some (.bbs5 0x12 (-125)) ∧
    decodeTableWord 24 0x8312EF = some (.bbs6 0x12 (-125)) ∧
    decodeTableWord 24 0x8312FF = some (.bbs7 0x12 (-125)) := by decide

theorem test_decode_ldy :
    decodeTableWord 24 0x8312A0 = some (.ldyImm 0x12) ∧
    decodeTableWord 24 0x8312A4 = some (.ldyZp 0x12) ∧
    decodeTableWord 24 0x8312AC = some (.ldyAbs 0x8312) ∧
    decodeTableWord 24 0x8312B4 = some (.ldyZpx 0x12) ∧
    decodeTableWord 24 0x8312BC = some (.ldyAbx 0x8312) := by decide

theorem test_decode_lda :
    decodeTableWord 24 0x8312A1 = some (.ldaIzx 0x12) ∧
    decodeTableWord 24 0x8312A5 = some (.ldaZp 0x12) ∧
    decodeTableWord 24 0x8312A9 = some (.ldaImm 0x12) ∧
    decodeTableWord 24 0x8312AD = some (.ldaAbs 0x8312) ∧
    decodeTableWord 24 0x8312B1 = some (.ldaIzy 0x12) ∧
    decodeTableWord 24 0x8312B2 = some (.ldaIzp 0x12) ∧
    decodeTableWord 24 0x8312B5 = some (.ldaZpx 0x12) ∧
    decodeTableWord 24 0x8312B9 = some (.ldaAby 0x8312) ∧
    decodeTableWord 24 0x8312BD = some (.ldaAbx 0x8312) := by decide

theorem test_decode_ldx :
    decodeTableWord 24 0x8312A2 = some (.ldxImm 0x12) ∧
    decodeTableWord 24 0x8312A6 = some (.ldxZp 0x12) ∧
    decodeTableWord 24 0x8312AE = some (.ldxAbs 0x8312) ∧
    decodeTableWord 24 0x8312B6 = some (.ldxZpy 0x12) ∧
    decodeTableWord 24 0x8312BE = some (.ldxAby 0x8312) := by decide

theorem test_decode_cpy :
    decodeTableWord 24 0x8312C0 = some (.cpyImm 0x12) ∧
    decodeTableWord 24 0x8312C4 = some (.cpyZp 0x12) ∧
    decodeTableWord 24 0x8312CC = some (.cpyAbs 0x8312) := by decide

theorem test_decode_cmp :
    decodeTableWord 24 0x8312C1 = some (.cmpIzx 0x12) ∧
    decodeTableWord 24 0x8312C5 = some (.cmpZp 0x12) ∧
    decodeTableWord 24 0x8312C9 = some (.cmpImm 0x12) ∧
    decodeTableWord 24 0x8312CD = some (.cmpAbs 0x8312) ∧
    decodeTableWord 24 0x8312D1 = some (.cmpIzy 0x12) ∧
    decodeTableWord 24 0x8312D2 = some (.cmpIzp 0x12) ∧
    decodeTableWord 24 0x8312D5 = some (.cmpZpx 0x12) ∧
    decodeTableWord 24 0x8312D9 = some (.cmpAby 0x8312) ∧
    decodeTableWord 24 0x8312DD = some (.cmpAbx 0x8312) := by decide

theorem test_decode_unimplemented :
    decodeTableWord 24 0x8312CB = some (.unimplementedCB) ∧
    decodeTableWord 24 0x8312DB = some (.unimplementedDB) := by decide

theorem test_decode_cpx :
    decodeTableWord 24 0x8312E0 = some (.cpxImm 0x12) ∧
    decodeTableWord 24 0x8312E4 = some (.cpxZp 0x12) ∧
    decodeTableWord 24 0x8312EC = some (.cpxAbs 0x8312) := by decide

theorem test_decode_sbc :
    decodeTableWord 24 0x8312E1 = some (.sbcIzx 0x12) ∧
    decodeTableWord 24 0x8312E5 = some (.sbcZp 0x12) ∧
    decodeTableWord 24 0x8312E9 = some (.sbcImm 0x12) ∧
    decodeTableWord 24 0x8312ED = some (.sbcAbs 0x8312) ∧
    decodeTableWord 24 0x8312F1 = some (.sbcIzy 0x12) ∧
    decodeTableWord 24 0x8312F2 = some (.sbcIzp 0x12) ∧
    decodeTableWord 24 0x8312F5 = some (.sbcZpx 0x12) ∧
    decodeTableWord 24 0x8312F9 = some (.sbcAby 0x8312) ∧
    decodeTableWord 24 0x8312FD = some (.sbcAbx 0x8312) := by decide

/-- A displacement byte is signed (R103): $FE is -2, $80 is -128. -/
theorem test_decode_signed_displacement :
    decodeTableWord 16 0xFE80 = some (.bra (-2)) ∧ decodeTableWord 16 0x8010 = some (.bpl (-128)) := by
  decide

/-- The table's short words: the operand bytes above `nbits` are zero. -/
theorem test_decode_short_word :
    decodeTableWord 8 0xBD = some (.ldaAbx 0) ∧ decodeTableWord 8 0xFF = some (.bbs7 0 0) := by decide

theorem test_decode_rejects_nothing_to_read : (decode [] matches .error _) = true := by decide

theorem test_decode_rejects_short_operand : (decode [0xAD, 0x00] matches .error _) = true := by decide

/-! ### One step per instruction: the spec's vectors -/

/-- Vector V3: `LDA $12FF,X`. -/
theorem test_lda_abx_crosses : ran (ready 0x0600 [0xBD, 0xFF, 0x12] [(0x1300, 0x7F)])
    (fun s => { s with x := 0x01 })
    (fun t => (t.a, t.pc, t.cycles, t.bus.accesses.drop 3)) =
    some (0x7F, 0x0603, 5, [⟨.read, 0x1300, 0x7F⟩]) := by decide

/-- Vector V7: `LDA ($FF,X)`. -/
theorem test_lda_izx_wraps : ran (ready 0x0600 [0xA1, 0xFF] [(0x00FF, 0x34), (0x0000, 0x12), (0x0100, 0x99), (0x1234, 0x77)])
    (fun s => { s with x := 0x00 })
    (fun t => (t.a, t.pc, t.cycles, t.bus.accesses.drop 2)) =
    some (0x77, 0x0602, 6, [⟨.read, 0x00FF, 0x34⟩, ⟨.read, 0x0000, 0x12⟩, ⟨.read, 0x1234, 0x77⟩]) := by decide

/-- Vector V6: `LDX $F0,Y`. -/
theorem test_ldx_zpy_wraps : ran (ready 0x0600 [0xB6, 0xF0] [(0x0000, 0x01), (0x0100, 0x99)])
    (fun s => { s with y := 0x10 })
    (fun t => (t.x, t.pc, t.cycles, t.bus.accesses.drop 2)) =
    some (0x01, 0x0602, 4, [⟨.read, 0x0000, 0x01⟩]) := by decide

/-- Vector V10: `LDY $FFFF,X`. -/
theorem test_ldy_abx_wraps : ran (ready 0x0600 [0xBC, 0xFF, 0xFF] [(0x0001, 0x33)])
    (fun s => { s with x := 0x02 })
    (fun t => (t.y, t.pc, t.cycles, t.bus.accesses.drop 3)) =
    some (0x33, 0x0603, 5, [⟨.read, 0x0001, 0x33⟩]) := by decide

/-- Vector V11: `STA $12FF,X`. -/
theorem test_sta_abx : ran (ready 0x0600 [0x9D, 0xFF, 0x12] [])
    (fun s => { s with a := 0xAB, x := 0x00 })
    (fun t => (t.pc, t.cycles, t.bus.accesses.drop 3)) =
    some (0x0603, 5, [⟨.write, 0x12FF, 0xAB⟩]) := by decide

/-- Vector V12: `STA ($30),Y`. -/
theorem test_sta_izy : ran (ready 0x0600 [0x91, 0x30] [(0x0030, 0x01), (0x0031, 0x20)])
    (fun s => { s with a := 0x11, y := 0xFF })
    (fun t => (t.pc, t.cycles, t.bus.accesses.drop 2)) =
    some (0x0602, 6, [⟨.read, 0x0030, 0x01⟩, ⟨.read, 0x0031, 0x20⟩, ⟨.write, 0x2100, 0x11⟩]) := by decide

/-- Vector V14: `STX $FF,Y`. -/
theorem test_stx_zpy_wraps : ran (ready 0x0600 [0x96, 0xFF] [])
    (fun s => { s with x := 0x5A, y := 0x02 })
    (fun t => (t.pc, t.cycles, t.bus.accesses.drop 2)) =
    some (0x0602, 4, [⟨.write, 0x0001, 0x5A⟩]) := by decide

/-- Vector V13: `STZ $10`. -/
theorem test_stz_zp : ran (ready 0x0600 [0x64, 0x10] [(0x0010, 0xFF)])
    (fun s => { s with flagZ := false, flagN := true })
    (fun t => (t.pc, t.cycles, t.bus.accesses.drop 2)) =
    some (0x0602, 3, [⟨.write, 0x0010, 0x00⟩]) := by decide

/-- Vector V22: `ADC #$80`. -/
theorem test_adc_overflow : ran (ready 0x0600 [0x69, 0x80] [])
    (fun s => { s with a := 0x80, flagC := false, flagD := false })
    (fun t => (t.a, [t.flagN, t.flagV, t.flagZ, t.flagC], t.pc, t.cycles)) =
    some (0x00, [false, true, true, true], 0x0602, 2) := by decide

/-- Vector V57: `ADC $1280,X`. -/
theorem test_adc_decimal_abx : ran (ready 0x0600 [0x7D, 0x80, 0x12] [(0x1300, 0x08)])
    (fun s => { s with a := 0x01, x := 0x80, flagC := true, flagD := true })
    (fun t => (t.a, [t.flagN, t.flagZ, t.flagC], t.pc, t.cycles, t.bus.accesses.drop 3)) =
    some (0x10, [false, false, false], 0x0603, 6, [⟨.read, 0x1300, 0x08⟩]) := by decide

/-- Vector V31: `SBC #$01`. -/
theorem test_sbc_overflow : ran (ready 0x0600 [0xE9, 0x01] [])
    (fun s => { s with a := 0x80, flagC := true, flagD := false })
    (fun t => (t.a, [t.flagN, t.flagV, t.flagZ, t.flagC], t.pc, t.cycles)) =
    some (0x7F, [false, true, false, true], 0x0602, 2) := by decide

/-- Vector V53: `SBC #$25`. -/
theorem test_sbc_decimal_borrow_in : ran (ready 0x0600 [0xE9, 0x25] [])
    (fun s => { s with a := 0x50, flagC := false, flagD := true })
    (fun t => (t.a, [t.flagN, t.flagZ, t.flagC], t.pc, t.cycles)) =
    some (0x24, [false, false, true], 0x0602, 3) := by decide

/-- Vector V61: `CMP #$11`. -/
theorem test_cmp_less : ran (ready 0x0600 [0xC9, 0x11] [])
    (fun s => { s with a := 0x10 })
    (fun t => ([t.flagN, t.flagZ, t.flagC], t.pc, t.cycles)) =
    some ([true, false, false], 0x0602, 2) := by decide

/-- Vector V63: `CPX #$00`. -/
theorem test_cpx : ran (ready 0x0600 [0xE0, 0x00] [])
    (fun s => { s with x := 0x80 })
    (fun t => ([t.flagN, t.flagZ, t.flagC], t.pc, t.cycles)) =
    some ([true, false, true], 0x0602, 2) := by decide

/-- Vector V64: `CPY $10`. -/
theorem test_cpy_less : ran (ready 0x0600 [0xC4, 0x10] [(0x0010, 0x80)])
    (fun s => { s with y := 0x7F })
    (fun t => ([t.flagN, t.flagZ, t.flagC], t.pc, t.cycles, t.bus.accesses.drop 2)) =
    some ([true, false, false], 0x0602, 3, [⟨.read, 0x0010, 0x80⟩]) := by decide

/-- Vector V65: `AND #$0F`. -/
theorem test_and : ran (ready 0x0600 [0x29, 0x0F] [])
    (fun s => { s with a := 0xF0 })
    (fun t => (t.a, [t.flagN, t.flagZ], t.pc, t.cycles)) =
    some (0x00, [false, true], 0x0602, 2) := by decide

/-- Vector V66: `ORA #$80`. -/
theorem test_ora : ran (ready 0x0600 [0x09, 0x80] [])
    (fun s => { s with a := 0x01 })
    (fun t => (t.a, [t.flagN, t.flagZ], t.pc, t.cycles)) =
    some (0x81, [true, false], 0x0602, 2) := by decide

/-- Vector V67: `EOR #$FF`. -/
theorem test_eor : ran (ready 0x0600 [0x49, 0xFF] [])
    (fun s => { s with a := 0xFF })
    (fun t => (t.a, [t.flagN, t.flagZ], t.pc, t.cycles)) =
    some (0x00, [false, true], 0x0602, 2) := by decide

/-- Vector V68: `BIT $10`. -/
theorem test_bit_zp : ran (ready 0x0600 [0x24, 0x10] [(0x0010, 0xC0)])
    (fun s => { s with a := 0x01 })
    (fun t => ([t.flagN, t.flagV, t.flagZ], t.pc, t.cycles, t.bus.accesses.drop 2)) =
    some ([true, true, true], 0x0602, 3, [⟨.read, 0x0010, 0xC0⟩]) := by decide

/-- Vector V69: `BIT #$C0`. -/
theorem test_bit_imm : ran (ready 0x0600 [0x89, 0xC0] [])
    (fun s => { s with a := 0x01, flagN := false, flagV := false })
    (fun t => ([t.flagN, t.flagV, t.flagZ], t.pc, t.cycles)) =
    some ([false, false, true], 0x0602, 2) := by decide

/-- Vector V71: `TSB $10`. -/
theorem test_tsb : ran (ready 0x0600 [0x04, 0x10] [(0x0010, 0xF0)])
    (fun s => { s with a := 0x0F })
    (fun t => (t.flagZ, t.pc, t.cycles, t.bus.accesses.drop 2)) =
    some (true, 0x0602, 5, [⟨.read, 0x0010, 0xF0⟩, ⟨.write, 0x0010, 0xFF⟩]) := by decide

/-- Vector V72: `TRB $10`. -/
theorem test_trb : ran (ready 0x0600 [0x14, 0x10] [(0x0010, 0xFF)])
    (fun s => { s with a := 0x0F })
    (fun t => (t.flagZ, t.pc, t.cycles, t.bus.accesses.drop 2)) =
    some (false, 0x0602, 5, [⟨.read, 0x0010, 0xFF⟩, ⟨.write, 0x0010, 0xF0⟩]) := by decide

/-- Vector V85: `ASL $10`. -/
theorem test_asl_zp : ran (ready 0x0600 [0x06, 0x10] [(0x0010, 0x55)])
    (fun s => { s with flagC := true })
    (fun t => ([t.flagN, t.flagZ, t.flagC], t.pc, t.cycles, t.bus.accesses.drop 2)) =
    some ([true, false, false], 0x0602, 5, [⟨.read, 0x0010, 0x55⟩, ⟨.write, 0x0010, 0xAA⟩]) := by decide

/-- Vector V81: `LSR A`. -/
theorem test_lsr_acc : ran (ready 0x0600 [0x4A] [])
    (fun s => { s with a := 0x01, flagC := false })
    (fun t => (t.a, [t.flagN, t.flagZ, t.flagC], t.pc, t.cycles)) =
    some (0x00, [false, true, true], 0x0601, 2) := by decide

/-- Vector V86: `ROL $12F0,X`. -/
theorem test_rol_abx : ran (ready 0x0600 [0x3E, 0xF0, 0x12] [(0x1310, 0xFF)])
    (fun s => { s with x := 0x20, flagC := false })
    (fun t => ([t.flagN, t.flagZ, t.flagC], t.pc, t.cycles, t.bus.accesses.drop 3)) =
    some ([true, false, true], 0x0603, 7, [⟨.read, 0x1310, 0xFF⟩, ⟨.write, 0x1310, 0xFE⟩]) := by decide

/-- Vector V83: `ROR A`. -/
theorem test_ror_acc : ran (ready 0x0600 [0x6A] [])
    (fun s => { s with a := 0x01, flagC := true })
    (fun t => (t.a, [t.flagN, t.flagZ, t.flagC], t.pc, t.cycles)) =
    some (0x80, [true, false, true], 0x0601, 2) := by decide

/-- Vector V94: `INC $C081`. -/
theorem test_inc_of_a_switch : ran (ready 0x0600 [0xEE, 0x81, 0xC0] [])
    (fun s => { s with bus := { s.bus with lcWriteRam := false, lcPreWrite := true } })
    (fun t => ([t.flagN, t.flagZ], t.pc, [t.bus.lcBank2, t.bus.lcReadRam, t.bus.lcWriteRam, t.bus.lcPreWrite], t.cycles, t.bus.accesses.drop 3)) =
    some ([false, false], 0x0603, [true, false, true, false], 6, [⟨.read, 0xC081, 0x00⟩, ⟨.write, 0xC081, 0x01⟩]) := by decide

/-- Vector V87: `INC $10`. -/
theorem test_inc_zp_wraps : ran (ready 0x0600 [0xE6, 0x10] [(0x0010, 0xFF)])
    (fun s => { s with flagC := true, flagV := true })
    (fun t => ([t.flagN, t.flagV, t.flagZ, t.flagC], t.pc, t.cycles, t.bus.accesses.drop 2)) =
    some ([false, true, true, true], 0x0602, 5, [⟨.read, 0x0010, 0xFF⟩, ⟨.write, 0x0010, 0x00⟩]) := by decide

/-- Vector V88: `DEC $10`. -/
theorem test_dec_zp_wraps : ran (ready 0x0600 [0xC6, 0x10] [(0x0010, 0x00)])
    (id)
    (fun t => ([t.flagN, t.flagZ], t.pc, t.cycles, t.bus.accesses.drop 2)) =
    some ([true, false], 0x0602, 5, [⟨.read, 0x0010, 0x00⟩, ⟨.write, 0x0010, 0xFF⟩]) := by decide

/-- Vector V92: `INX`. -/
theorem test_inx_wraps : ran (ready 0x0600 [0xE8] [])
    (fun s => { s with x := 0xFF })
    (fun t => (t.x, [t.flagN, t.flagZ], t.pc, t.cycles)) =
    some (0x00, [false, true], 0x0601, 2) := by decide

/-- Vector V93: `DEY`. -/
theorem test_dey_wraps : ran (ready 0x0600 [0x88] [])
    (fun s => { s with y := 0x00 })
    (fun t => (t.y, [t.flagN, t.flagZ], t.pc, t.cycles)) =
    some (0xFF, [true, false], 0x0601, 2) := by decide

/-- Vector V101: `BCC +3`. -/
theorem test_bcc_not_taken : ran (ready 0x0600 [0x90, 0x03] [])
    (fun s => { s with flagC := true })
    (fun t => (t.pc, t.cycles)) =
    some (0x0602, 2) := by decide

/-- Vector V102: `BEQ +16`. -/
theorem test_beq_crosses : ran (ready 0x06F0 [0xF0, 0x10] [])
    (fun s => { s with flagZ := true })
    (fun t => (t.pc, t.cycles)) =
    some (0x0702, 4) := by decide

/-- Vector V103: `BPL -128`. -/
theorem test_bpl_lowest : ran (ready 0x1000 [0x10, 0x80] [])
    (fun s => { s with flagN := false })
    (fun t => (t.pc, t.cycles)) =
    some (0x0F82, 4) := by decide

/-- Vector V104: `BNE -2 (self)`. -/
theorem test_bne_backward : ran (ready 0x0600 [0xD0, 0xFE] [])
    (fun s => { s with flagZ := false })
    (fun t => (t.pc, t.cycles)) =
    some (0x0600, 3) := by decide

/-- Vector V105: `BMI +127`. -/
theorem test_bmi_highest : ran (ready 0x1000 [0x30, 0x7F] [])
    (fun s => { s with flagN := true })
    (fun t => (t.pc, t.cycles)) =
    some (0x1081, 3) := by decide

/-- Vector V106: `BRA +16`. -/
theorem test_bra_wraps : ran (ready 0xFFF8 [0x80, 0x10] [])
    (id)
    (fun t => (t.pc, t.cycles)) =
    some (0x000A, 4) := by decide

/-- Vector V107: `BVS +2`. -/
theorem test_bvs_crosses : ran (ready 0x06FD [0x70, 0x02] [])
    (fun s => { s with flagV := true })
    (fun t => (t.pc, t.cycles)) =
    some (0x0701, 4) := by decide

/-- Vector V110: `JMP ($12FF)`. -/
theorem test_jmp_ind_no_page_wrap : ran (ready 0x0600 [0x6C, 0xFF, 0x12] [(0x12FF, 0x78), (0x1300, 0x56), (0x1200, 0x99)])
    (id)
    (fun t => (t.pc, t.cycles, t.bus.accesses.drop 3)) =
    some (0x5678, 6, [⟨.read, 0x12FF, 0x78⟩, ⟨.read, 0x1300, 0x56⟩]) := by decide

/-- Vector V111: `JMP ($0300,X)`. -/
theorem test_jmp_iax : ran (ready 0x0600 [0x7C, 0x00, 0x03] [(0x0302, 0x00), (0x0303, 0x08)])
    (fun s => { s with x := 0x02 })
    (fun t => (t.pc, t.cycles, t.bus.accesses.drop 3)) =
    some (0x0800, 6, [⟨.read, 0x0302, 0x00⟩, ⟨.read, 0x0303, 0x08⟩]) := by decide

/-- Vector V122: `JSR $2000`. -/
theorem test_jsr_stack_wraps : ran (ready 0x1000 [0x20, 0x00, 0x20] [])
    (fun s => { s with sp := 0x00 })
    (fun t => (t.sp, t.pc, t.cycles, t.bus.accesses.drop 3)) =
    some (0xFE, 0x2000, 6, [⟨.write, 0x0100, 0x10⟩, ⟨.write, 0x01FF, 0x02⟩]) := by decide

/-- Vector V123: `RTS`. -/
theorem test_rts_wraps : ran (ready 0x2000 [0x60] [(0x01FF, 0xFF), (0x0100, 0xFF)])
    (fun s => { s with sp := 0xFE })
    (fun t => (t.sp, t.pc, t.cycles, t.bus.accesses.drop 1)) =
    some (0x00, 0x0000, 6, [⟨.read, 0x01FF, 0xFF⟩, ⟨.read, 0x0100, 0xFF⟩]) := by decide

/-- Vector V124: `BRK`. -/
theorem test_brk : ran (ready 0x0600 [0x00] [(0xFFFE, 0x00), (0xFFFF, 0xC1)])
    (fun s => { s with sp := 0xFF, flagN := false, flagV := false, flagD := true, flagI := false, flagZ := true, flagC := true })
    (fun t => (t.sp, [t.flagD, t.flagI], t.pc, t.cycles, t.bus.accesses.drop 1)) =
    some (0xFC, [false, true], 0xC100, 7, [⟨.write, 0x01FF, 0x06⟩, ⟨.write, 0x01FE, 0x02⟩, ⟨.write, 0x01FD, 0x3B⟩, ⟨.read, 0xFFFE, 0x00⟩, ⟨.read, 0xFFFF, 0xC1⟩]) := by decide

/-- Vector V127: `BRK`. -/
theorem test_brk_stack_wraps : ran (ready 0x02FF [0x00] [(0xFFFE, 0x34), (0xFFFF, 0x12)])
    (fun s => { s with sp := 0x01, flagN := true, flagV := true, flagD := false, flagI := true, flagZ := false, flagC := false })
    (fun t => (t.sp, [t.flagD, t.flagI], t.pc, t.cycles, t.bus.accesses.drop 1)) =
    some (0xFE, [false, true], 0x1234, 7, [⟨.write, 0x0101, 0x03⟩, ⟨.write, 0x0100, 0x01⟩, ⟨.write, 0x01FF, 0xF4⟩, ⟨.read, 0xFFFE, 0x34⟩, ⟨.read, 0xFFFF, 0x12⟩]) := by decide

/-- Vector V125: `RTI`. -/
theorem test_rti : ran (ready 0xC100 [0x40] [(0x01FD, 0x3B), (0x01FE, 0x02), (0x01FF, 0x06)])
    (fun s => { s with sp := 0xFC, flagI := true, flagD := false })
    (fun t => (t.sp, [t.flagN, t.flagV, t.flagD, t.flagI, t.flagZ, t.flagC], t.pc, t.cycles, t.bus.accesses.drop 1)) =
    some (0xFF, [false, false, true, false, true, true], 0x0602, 6, [⟨.read, 0x01FD, 0x3B⟩, ⟨.read, 0x01FE, 0x02⟩, ⟨.read, 0x01FF, 0x06⟩]) := by decide

/-- Vector V126: `RTI`. -/
theorem test_rti_discards_bits_5_and_4 : ran (ready 0xC100 [0x40] [(0x01FD, 0xFF), (0x01FE, 0x00), (0x01FF, 0x80)])
    (fun s => { s with sp := 0xFC, flagI := true })
    (fun t => (t.sp, [t.flagN, t.flagV, t.flagD, t.flagI, t.flagZ, t.flagC], t.pc, t.cycles, t.bus.accesses.drop 1)) =
    some (0xFF, [true, true, true, true, true, true], 0x8000, 6, [⟨.read, 0x01FD, 0xFF⟩, ⟨.read, 0x01FE, 0x00⟩, ⟨.read, 0x01FF, 0x80⟩]) := by decide

/-- Vector V130: `RMB3 $10`. -/
theorem test_rmb3 : ran (ready 0x0600 [0x37, 0x10] [(0x0010, 0xFF)])
    (id)
    (fun t => (t.pc, t.cycles, t.bus.accesses.drop 2)) =
    some (0x0602, 5, [⟨.read, 0x0010, 0xFF⟩, ⟨.write, 0x0010, 0xF7⟩]) := by decide

/-- Vector V131: `SMB7 $10`. -/
theorem test_smb7 : ran (ready 0x0600 [0xF7, 0x10] [(0x0010, 0x01)])
    (fun s => { s with flagN := false })
    (fun t => (t.flagN, t.pc, t.cycles, t.bus.accesses.drop 2)) =
    some (false, 0x0602, 5, [⟨.read, 0x0010, 0x01⟩, ⟨.write, 0x0010, 0x81⟩]) := by decide

/-- Vector V133: `BBR0 $20,+13`. -/
theorem test_bbr0_taken : ran (ready 0x0600 [0x0F, 0x20, 0x0D] [(0x0020, 0xFE)])
    (id)
    (fun t => (t.pc, t.cycles, t.bus.accesses[2]?)) =
    some (0x0610, 6, some ⟨.read, 0x0020, 0xFE⟩) := by decide

/-- Vector V135: `BBS7 $20,-3`. -/
theorem test_bbs7_backward : ran (ready 0x0600 [0xFF, 0x20, 0xFD] [(0x0020, 0x80)])
    (id)
    (fun t => (t.pc, t.cycles, t.bus.accesses[2]?)) =
    some (0x0600, 6, some ⟨.read, 0x0020, 0x80⟩) := by decide

/-- Vector V136: `BBS4 $20,+1`. -/
theorem test_bbs4_crosses : ran (ready 0x06FC [0xCF, 0x20, 0x01] [(0x0020, 0x10)])
    (id)
    (fun t => (t.pc, t.cycles, t.bus.accesses[2]?)) =
    some (0x0700, 7, some ⟨.read, 0x0020, 0x10⟩) := by decide

/-- Vector V140: `TAX`. -/
theorem test_tax : ran (ready 0x0600 [0xAA] [])
    (fun s => { s with a := 0x00, x := 0x55 })
    (fun t => (t.x, [t.flagN, t.flagZ], t.pc, t.cycles)) =
    some (0x00, [false, true], 0x0601, 2) := by decide

/-- Vector V141: `TXS`. -/
theorem test_txs_no_flags : ran (ready 0x0600 [0x9A] [])
    (fun s => { s with x := 0x00, sp := 0xFF, flagN := true, flagZ := false })
    (fun t => (t.sp, [t.flagN, t.flagZ], t.pc, t.cycles)) =
    some (0x00, [true, false], 0x0601, 2) := by decide

/-- Vector V142: `TSX`. -/
theorem test_tsx : ran (ready 0x0600 [0xBA] [])
    (fun s => { s with sp := 0xFD })
    (fun t => (t.x, [t.flagN, t.flagZ], t.pc, t.cycles)) =
    some (0xFD, [true, false], 0x0601, 2) := by decide

/-- Vector V143: `PHA`. -/
theorem test_pha_wraps : ran (ready 0x0600 [0x48] [])
    (fun s => { s with a := 0x42, sp := 0x00 })
    (fun t => (t.sp, t.pc, t.cycles, t.bus.accesses.drop 1)) =
    some (0xFF, 0x0601, 3, [⟨.write, 0x0100, 0x42⟩]) := by decide

/-- Vector V144: `PLA`. -/
theorem test_pla_wraps : ran (ready 0x0600 [0x68] [(0x0100, 0x00)])
    (fun s => { s with sp := 0xFF })
    (fun t => ([t.a, t.sp], [t.flagN, t.flagZ], t.pc, t.cycles, t.bus.accesses.drop 1)) =
    some ([0x00, 0x00], [false, true], 0x0601, 4, [⟨.read, 0x0100, 0x00⟩]) := by decide

/-- Vector V145: `PHP`. -/
theorem test_php_bits_5_and_4 : ran (ready 0x0600 [0x08] [])
    (fun s => { s with sp := 0xFF, flagN := true, flagV := false, flagD := false, flagI := true, flagZ := false, flagC := true, flagB := false })
    (fun t => (t.sp, t.pc, t.cycles, t.bus.accesses.drop 1)) =
    some (0xFE, 0x0601, 3, [⟨.write, 0x01FF, 0xB5⟩]) := by decide

/-- Vector V146: `PLP`. -/
theorem test_plp : ran (ready 0x0600 [0x28] [(0x01FF, 0xFF)])
    (fun s => { s with sp := 0xFE })
    (fun t => (t.sp, [t.flagN, t.flagV, t.flagD, t.flagI, t.flagZ, t.flagC], t.pc, t.cycles, t.bus.accesses.drop 1)) =
    some (0xFF, [true, true, true, true, true, true], 0x0601, 4, [⟨.read, 0x01FF, 0xFF⟩]) := by decide

/-- Vector V148: `PHX`. -/
theorem test_phx : ran (ready 0x0600 [0xDA] [])
    (fun s => { s with x := 0x01, sp := 0x80 })
    (fun t => (t.sp, t.pc, t.cycles, t.bus.accesses.drop 1)) =
    some (0x7F, 0x0601, 3, [⟨.write, 0x0180, 0x01⟩]) := by decide

/-- Vector V149: `PLY`. -/
theorem test_ply : ran (ready 0x0600 [0x7A] [(0x01FF, 0x80)])
    (fun s => { s with sp := 0xFE })
    (fun t => ([t.y, t.sp], [t.flagN, t.flagZ], t.pc, t.cycles, t.bus.accesses.drop 1)) =
    some ([0x80, 0xFF], [true, false], 0x0601, 4, [⟨.read, 0x01FF, 0x80⟩]) := by decide

/-- Vector V150: `CLC`. -/
theorem test_clc : ran (ready 0x0600 [0x18] [])
    (fun s => { s with flagC := true })
    (fun t => (t.flagC, t.pc, t.cycles)) =
    some (false, 0x0601, 2) := by decide

/-- Vector V151: `SED`. -/
theorem test_sed : ran (ready 0x0600 [0xF8] [])
    (fun s => { s with flagD := false })
    (fun t => (t.flagD, t.pc, t.cycles)) =
    some (true, 0x0601, 2) := by decide

/-- Vector V152: `CLV`. -/
theorem test_clv : ran (ready 0x0600 [0xB8] [])
    (fun s => { s with flagV := true })
    (fun t => (t.flagV, t.pc, t.cycles)) =
    some (false, 0x0601, 2) := by decide

/-- Vector V153: `CLI`. -/
theorem test_cli : ran (ready 0x0600 [0x58] [])
    (fun s => { s with flagI := true })
    (fun t => (t.flagI, t.pc, t.cycles)) =
    some (false, 0x0601, 2) := by decide

/-- Vector V154: `NOP`. -/
theorem test_nop : ran (ready 0x0600 [0xEA] [])
    (id)
    (fun t => (t.pc, t.cycles)) =
    some (0x0601, 2) := by decide

/-- Vector V157: `NOP $C083 (reserved $DC)`. -/
theorem test_nop_does_not_access : ran (ready 0x0600 [0xDC, 0x83, 0xC0] [])
    (fun s => { s with bus := { s.bus with lcWriteRam := false, lcPreWrite := true } })
    (fun t => (t.pc, t.cycles)) =
    some (0x0603, 4) := by decide

/-- Vector V159: `.byte $CB`. -/
theorem test_unimplemented_CB : ran (ready 0x0600 [0xCB] [])
    (id)
    (fun t => (t.pc, t.run, t.stopReason, t.cycles)) =
    some (0x0600, .stopped, .unimplementedOpcode 0xCB 0x0600, 0) := by decide

/-- Vector V160: `.byte $DB`. -/
theorem test_unimplemented_DB_at_FFFF : ran (ready 0xFFFF [0xDB] [])
    (id)
    (fun t => (t.pc, t.run, t.stopReason, t.cycles)) =
    some (0xFFFF, .stopped, .unimplementedOpcode 0xDB 0xFFFF, 0) := by decide

/-! Instructions without a vector in the spec: expected values worked out from their rules. -/

/-- R165. -/
theorem test_sty_abs : ran (ready 0x0600 [0x8C, 0x00, 0x20] []) (fun s => { s with y := 0x5A })
    (fun t => (t.pc, t.cycles, t.bus.accesses.drop 3)) =
    some (0x0603, 4, [⟨.write, 0x2000, 0x5A⟩]) := by decide

/-- R207. -/
theorem test_iny_sets_n : ran (ready 0x0600 [0xC8] []) (fun s => { s with y := 0x7F })
    (fun t => (t.y, [t.flagN, t.flagZ], t.pc, t.cycles)) =
    some (0x80, [true, false], 0x0601, 2) := by decide

/-- R208. -/
theorem test_dex_to_zero : ran (ready 0x0600 [0xCA] []) (fun s => { s with x := 0x01 })
    (fun t => (t.x, [t.flagN, t.flagZ], t.pc, t.cycles)) =
    some (0x00, [false, true], 0x0601, 2) := by decide

/-- R262. -/
theorem test_txa : ran (ready 0x0600 [0x8A] []) (fun s => { s with a := 0x11, x := 0x80, y := 0x22 })
    (fun t => ([t.a, t.x, t.y], [t.flagN, t.flagZ], t.cycles)) =
    some ([0x80, 0x80, 0x22], [true, false], 2) := by decide

/-- R261. -/
theorem test_tay : ran (ready 0x0600 [0xA8] []) (fun s => { s with a := 0x00, x := 0x33, y := 0x22 })
    (fun t => ([t.a, t.x, t.y], [t.flagN, t.flagZ], t.cycles)) =
    some ([0x00, 0x33, 0x00], [false, true], 2) := by decide

/-- R263. -/
theorem test_tya : ran (ready 0x0600 [0x98] []) (fun s => { s with a := 0x11, x := 0x33, y := 0x7F })
    (fun t => ([t.a, t.x, t.y], [t.flagN, t.flagZ], t.cycles)) =
    some ([0x7F, 0x33, 0x7F], [false, false], 2) := by decide

/-- R270. -/
theorem test_phy : ran (ready 0x0600 [0x5A] []) (fun s => { s with y := 0x99 })
    (fun t => (t.sp, t.pc, t.cycles, t.bus.accesses.drop 1)) =
    some (0xFE, 0x0601, 3, [⟨.write, 0x01FF, 0x99⟩]) := by decide

/-- R269. -/
theorem test_plx : ran (ready 0x0600 [0xFA] [(0x0181, 0x80)]) (fun s => { s with sp := 0x80 })
    (fun t => ([t.x, t.sp], [t.flagN, t.flagZ], t.cycles)) =
    some ([0x80, 0x81], [true, false], 4) := by decide

/-- R275. -/
theorem test_sec : ran (ready 0x0600 [0x38] []) id (fun t => (t.flagC, t.pc, t.cycles)) =
    some (true, 0x0601, 2) := by decide

/-- R277. -/
theorem test_sei : ran (ready 0x0600 [0x78] []) id (fun t => (t.flagI, t.pc, t.cycles)) =
    some (true, 0x0601, 2) := by decide

/-- R278. -/
theorem test_cld : ran (ready 0x0600 [0xD8] []) (fun s => { s with flagD := true })
    (fun t => (t.flagD, t.pc, t.cycles)) = some (false, 0x0601, 2) := by decide

/-- R220, R222. -/
theorem test_bcs_taken : ran (ready 0x0600 [0xB0, 0x03] []) (fun s => { s with flagC := true })
    (fun t => (t.pc, t.cycles)) = some (0x0605, 3) := by decide

/-- R220, R227. -/
theorem test_bvc_not_taken : ran (ready 0x0600 [0x50, 0x03] []) (fun s => { s with flagV := true })
    (fun t => (t.pc, t.cycles)) = some (0x0602, 2) := by decide

/-- R250, R251: the other bits of RMB and SMB, each on a byte that shows a wrong bit number. -/
theorem test_rmb6 : ran (ready 0x0600 [0x67, 0x10] [(0x10, 0xFF)]) id
    (fun t => t.bus.accesses.drop 2) = some [⟨.read, 0x10, 0xFF⟩, ⟨.write, 0x10, 0xBF⟩] := by decide

theorem test_smb0 : ran (ready 0x0600 [0x87, 0x10] []) id
    (fun t => t.bus.accesses.drop 2) = some [⟨.read, 0x10, 0x00⟩, ⟨.write, 0x10, 0x01⟩] := by decide

/-- R411, R243: BRK in debugger-break mode. -/
theorem test_brk_halts : ran (ready 0x0600 [0x00] []) (fun s => { s with brkHalt := true })
    (fun t => (t.run, t.stopReason, t.pc, t.sp)) = some (.stopped, .brk 0x0601, 0x0601, 0xFF) := by
  decide

/-! ### The bus -/

/-- Vector L3: an access of an even switch between two odd reads. -/
theorem test_disabling_access_resets_the_counter :
    (touchAll [(.read, 0xC083, 0), (.read, 0xC082, 0), (.read, 0xC083, 0)] Bus.reset).lcWriteRam =
      false := by decide

/-- Vector L5: two odd reads of different switches. -/
theorem test_two_odd_reads_enable :
    (let b := touchAll [(.read, 0xC081, 0), (.read, 0xC08B, 0)] Bus.reset;
      [b.lcBank2, b.lcReadRam, b.lcWriteRam, b.lcPreWrite]) = [false, true, true, true] := by decide

/-- Vector L10: a write to an even switch. -/
theorem test_write_to_even_switch :
    (let b := touchAll [(.write, 0xC08A, 0x55)]
        { Bus.reset with lcReadRam := true, lcWriteRam := true, lcPreWrite := true };
      [b.lcBank2, b.lcReadRam, b.lcWriteRam, b.lcPreWrite]) = [false, false, false, false] := by decide

/-- Example S11: `JMP ($C081)` acts on two switches while it reads its pointer. -/
theorem test_switch_inside_an_instruction :
    ran (ready 0x0600 [0x6C, 0x81, 0xC0] []) (fun s => { s with bus := { s.bus with lcReadRam := true } })
      (fun t => (t.pc, [t.bus.lcReadRam, t.bus.lcWriteRam, t.bus.lcPreWrite])) =
      some (0x0000, [false, false, false]) := by decide

/-- R72: a write to an address with a write handler calls it with the address and the byte; without one the
write is dropped. -/
theorem test_device_write :
    (ran (ready 0x0600 [0x8D, 0x70, 0xC0] []) (fun s =>
        { s with a := 0x5A, bus := { s.bus with writeHandlers := [0x70] } })
      (fun t => t.bus.deviceWrites), ran (ready 0x0600 [0x8D, 0x70, 0xC0] []) (fun s => { s with a := 0x5A })
      (fun t => t.bus.deviceWrites)) = (some [⟨0xC070, 0x5A⟩], some []) := by decide

/-! ### The configuration (R6) -/

/-- `UNIMPLEMENTED_OPCODES` without $CB: R292 is then a one-byte, one-cycle NOP. -/
theorem test_configured_opcode_set :
    ran (ready 0x0600 [0xCB] []) (fun s => { s with params := { s.params with unimplementedOpcodes := [0xDB] } })
      (fun t => (t.run, t.pc, t.cycles)) = some (.running, 0x0601, 1) := by decide

/-- `VEC_IRQ` moved to $FFF0. -/
theorem test_configured_vector :
    ran (ready 0x0600 [0x00] [(0xFFF0, 0x34), (0xFFF1, 0x12)])
      (fun s => { s with params := { s.params with vecIrq := 0xFFF0 } }) (fun t => t.pc) =
      some 0x1234 := by decide

/-- `LC_BASE` moved to $C090, and `LC_SWITCH_READ_VALUE` and `IO_DEFAULT` other than 0. -/
theorem test_configured_decoder :
    (let b := { Bus.reset with params := ⟨0xC090, 0xA0, 0xFF, false⟩ };
      ((b.read 0xC093).1, (b.read 0xC093).2.lcReadRam, (b.read 0xC083).1, (b.read 0xC083).2.lcReadRam)) =
      (0xA0, true, 0xFF, false) := by decide

/-- `JMP_IND_PAGE_WRAP`: the second pointer byte from the same page (R141). -/
theorem test_configured_page_wrap :
    ran (ready 0x0600 [0x6C, 0xFF, 0x12] [(0x12FF, 0x34), (0x1300, 0x56), (0x1200, 0x78)])
      (fun s => { s with params := { s.params with jmpIndPageWrap := true } }) (fun t => t.pc) =
      some 0x7834 := by decide

/-- `DEC_ADC` configured on operands of its own. -/
theorem test_configured_dec_adc :
    ran (ready 0x0600 [0x69, 0x01] []) (fun s => { s with
        a := 0x0F, flagD := true, params := { s.params with decAdc := [⟨0x0F, 0x01, false, 0x77, true⟩] } })
      (fun t => (t.a, [t.flagC, t.flagN, t.flagZ], t.cycles)) = some (0x77, [true, false, false], 3) := by
  decide

/-- `RESET_SP` and the reset value of lcWriteRam, configured. -/
theorem test_configured_reset :
    (let t := resetSequence { ready 0x0600 [] [] with
        params := { Config.CoreParams.spec with resetSp := some 0xFD, resetLcWriteRam := some true } };
      (t.sp, t.bus.lcWriteRam)) = (0xFD, true) := by decide

/-- `AUX_PRESENT` (R56, U18): refused. -/
theorem test_auxiliary_bank_refused :
    (step { ready 0x0600 [0xEA] [] with
        bus := { Bus.reset with params := { Config.BusParams.spec with auxPresent := true } } }
      matches .refused .auxiliaryBank) = true := by decide

/-! ### The boundary -/

/-- R423, R426: IRQ entry pushes PC as it is, with bit 4 of the status clear and bit 5 set. -/
theorem test_irq_entry :
    ran (ready 0x0600 [0xEA] [(0xFFFE, 0x00), (0xFFFF, 0xC1)])
      (fun s => { s with flagD := true, schedule := [⟨[], true, false⟩] })
      (fun t => (t.pc, t.sp, [t.flagI, t.flagD, t.flagB], t.cycles, t.bus.accesses)) =
      some (0xC100, 0xFC, [true, false, false], 7,
        [⟨.write, 0x01FF, 0x06⟩, ⟨.write, 0x01FE, 0x00⟩, ⟨.write, 0x01FD, 0x28⟩,
          ⟨.read, 0xFFFE, 0x00⟩, ⟨.read, 0xFFFF, 0xC1⟩]) := by decide

/-- R421: with I = 1 an asserted IRQ does nothing and the NOP runs. -/
theorem test_irq_masked :
    ran (ready 0x0600 [0xEA] []) (fun s => { s with flagI := true, schedule := [⟨[], true, false⟩] })
      (fun t => (t.pc, t.cycles)) = some (0x0601, 2) := by decide

/-- Example S10: a PC breakpoint at $0609 stops before the instruction there. -/
theorem test_pc_breakpoint :
    ran (ready 0x0609 [0xE8] []) (fun s => { s with breakpoints := [⟨0x0609, .pc, none⟩] })
      (fun t => (t.run, t.stopReason, t.pc, t.x, t.bus.accesses)) =
      some (.stopped, .breakpoint .pc 0x0609, 0x0609, 0, []) := by decide

/-- R436: a Write breakpoint on a range stops after the instruction that stored into it. -/
theorem test_write_breakpoint :
    ran (ready 0x0600 [0x85, 0x10] []) (fun s => { s with breakpoints := [⟨0x08, .write, some 0x10⟩] })
      (fun t => (t.run, t.stopReason, t.pc, t.tick)) =
      some (.stopped, .breakpoint .write 0x0010, 0x0602, some 3) := by decide

/-- Log 27: an entry without `endAddress` and one with `endAddress` = `address` are two entries. -/
theorem test_breakpoint_entries :
    (let add := fun e : Option Word => HostCommand.addBreakpoint ⟨0x0600, .pc, e⟩;
      ((hostMoves [add none, add none, add (some 0x0600)] State.reset).breakpoints.length,
        (hostMoves [add none, .removeBreakpoint ⟨0x0600, .pc, some 0x0600⟩] State.reset).breakpoints)) =
      (2, [⟨0x0600, .pc, none⟩]) := by decide

/-- R434: `step` runs one instruction and ends Stopped with Paused, past a PC breakpoint. -/
theorem test_step_command :
    ran (ready 0x0600 [0xE8, 0xE8] []) (fun s => { s with
        run := .stopped, breakpoints := [⟨0x0600, .pc, none⟩], schedule := [⟨[.step], false, false⟩] })
      (fun t => (t.x, t.pc, t.run, t.stopReason)) = some (0x01, 0x0601, .stopped, .paused) := by decide

/-- R454: a BRK halt is a fault of the program, a pause is not. -/
theorem test_stuck_by_brk :
    (halt (.brk 0x0601) (ready 0x0601 [] [])).Stuck ∧ ¬ (halt .paused (ready 0x0601 [] [])).Stuck :=
  ⟨⟨rfl, .inr ⟨_, rfl⟩⟩, fun h => h.2.elim (fun ⟨_, _, e⟩ => nomatch e) (fun ⟨_, e⟩ => nomatch e)⟩

/-- R430, R80: from reset the host loads a program, sets PC and says run. -/
theorem test_program_from_reset :
    ran State.reset
      (fun s => { s with schedule := [⟨[.load none 0x0300 [0xA9, 0x42], .writePc 0x0300, .run], false, false⟩] })
      (fun t => (t.a, t.pc, t.run)) = some (0x42, 0x0302, .running) := by decide

/-- The placing of a table word: the very next step after reset runs it. -/
theorem test_withFetchWord : ran (State.reset.withFetchWord 16 0x42A9) id (fun t => (t.a, t.pc)) =
    some (0x42, 0x0002) := by decide

/-! ### Witnesses: for each statement with hypotheses, values that meet them -/

theorem atPc_of_bytes {i : Instr} {s : State}
    (h : ∀ k : Fin (encode i).length, s.bus.peek (s.pc + BitVec.ofNat 16 k) = some (encode i)[k]) :
    AtPc i s := fun k v hk => by
  obtain ⟨hl, rfl⟩ := List.getElem?_eq_some_iff.mp hk
  exact h ⟨k, hl⟩

/-- DecodeOfEncode: a displacement at each end. -/
theorem witness_decodeOfEncode : WellFormed (.bbr0 0xFF (-128)) ∧ WellFormed (.bra 127) := by decide

/-- EveryOpcodeByteDecodes: two instructions with one opcode byte. -/
theorem witness_everyOpcodeByteDecodes :
    Instr.opcode (.bbs7 0x00 (-128)) = Instr.opcode (.bbs7 0xFF 127) ∧
      (Instr.bbs7 0x00 (-128)) ≠ .bbs7 0xFF 127 := by decide

/-- A quiet boundary before a three-byte instruction whose last byte lies at $0000 (StepRunsDecodedInstruction,
EveryStepDecodes). -/
def wrapping : State := ready 0xFFFE [0x0F, 0x20, 0x80] []

theorem witness_stepRunsDecodedInstruction :
    wrapping.Quiet ∧ WellFormed (.bbr0 0x20 (-128)) ∧ AtPc (.bbr0 0x20 (-128)) wrapping ∧
      wrapping.breakpoints = [] ∧ wrapping.singleStep = false ∧
      ran wrapping id (fun t => t.run) = some .running :=
  ⟨⟨rfl, rfl, rfl, rfl, rfl, rfl, .inl rfl⟩, by decide, atPc_of_bytes (by decide), rfl, rfl, by decide⟩

/-- Quiet by the first boundary after `run`, with a breakpoint at PC, and PC in the I/O page. -/
theorem witness_everyStepDecodes :
    State.Quiet { ready 0xC080 [] [] with
      breakpoints := [⟨0xC080, .pc, none⟩], firstBoundary := true } :=
  ⟨rfl, rfl, rfl, rfl, rfl, rfl, .inr rfl⟩

/-- After an instruction that read $0010. -/
def afterRead (bps : List Breakpoint) : State :=
  { ready 0x0602 [] [] with
    breakpoints := bps
    bus := { Bus.reset with accesses := [⟨.read, 0x0600, 0xA5⟩, ⟨.read, 0x0601, 0x10⟩, ⟨.read, 0x0010, 0x00⟩] } }

theorem witness_afterAnInstruction_stopped : (halt .paused (afterRead [])).run = .stopped := rfl

/-- A Write breakpoint there and a Read breakpoint that ends just below are hit by no access. -/
theorem witness_afterAnInstruction_noHit :
    let t := afterRead [⟨0x0010, .write, none⟩, ⟨0x0008, .read, some 0x000F⟩, ⟨0x0010, .pc, none⟩]
    t.run = .running ∧ ∀ x ∈ t.bus.accesses, ∀ b ∈ t.breakpoints, ¬ Hits b x := by
  unfold Hits; decide

/-- A Read range that ends at the address is hit by the third access, and by none before. -/
theorem witness_afterAnInstruction_hit :
    let t := afterRead [⟨0x0008, .read, some 0x0010⟩]
    let x : BusAccess := ⟨.read, 0x0010, 0x00⟩
    let pre : List BusAccess := [⟨.read, 0x0600, 0xA5⟩, ⟨.read, 0x0601, 0x10⟩]
    t.run = .running ∧ t.bus.accesses = pre ++ x :: [] ∧
      (∀ y ∈ pre, ∀ b ∈ t.breakpoints, ¬ Hits b y) ∧ ∃ b ∈ t.breakpoints, Hits b x := by
  unfold Hits; decide

/-- A Running core at a boundary with these inputs, at $0600. -/
def boundary (irq nmi : Bool) : State :=
  { ready 0x0600 [0xEA] [] with schedule := [⟨[], irq, nmi⟩] }

theorem witness_boundaryOrder_auxiliaryBank :
    let s := { boundary false false with
      bus := { Bus.reset with params := { Config.BusParams.spec with auxPresent := true } } }
    s.bus.params.auxPresent = true ∧ s.run = .running := by decide

theorem witness_boundaryOrder_reset :
    let s := { boundary true true with resetRequest := true }
    s.bus.params.auxPresent = false ∧ s.run = .running ∧ s.schedule = ⟨[], true, true⟩ :: [] ∧
      s.resetRequest = true := by decide

theorem witness_boundaryOrder_pause :
    let s := { boundary true true with pauseRequest := true }
    s.bus.params.auxPresent = false ∧ s.schedule = ⟨[], true, true⟩ :: [] ∧
      s.run = .running ∧ s.resetRequest = false ∧ s.pauseRequest = true ∧ s.singleStep = false := by decide

/-- NMI before IRQ, in a single step that skips the pause. -/
theorem witness_boundaryOrder_nmi :
    let s := { boundary true true with pauseRequest := true, singleStep := true }
    s.bus.params.auxPresent = false ∧ s.schedule = ⟨[], true, true⟩ :: [] ∧
      s.run = .running ∧ s.resetRequest = false ∧ (s.pauseRequest = false ∨ s.singleStep = true) ∧
      (opened s [] true).nmiPending = true := by decide

theorem witness_boundaryOrder_irq :
    let s := boundary true false
    s.bus.params.auxPresent = false ∧ s.schedule = ⟨[], true, false⟩ :: [] ∧
      s.run = .running ∧ s.resetRequest = false ∧ s.pauseRequest = false ∧
      (opened s [] false).nmiPending = false ∧ s.flagI = false := by decide

/-- A PC range that ends at PC, with IRQ asserted and I = 1. -/
theorem witness_boundaryOrder_break :
    let s := { boundary true false with flagI := true, breakpoints := [⟨0x0500, .pc, some 0x0600⟩] }
    s.bus.params.auxPresent = false ∧ s.schedule = ⟨[], true, false⟩ :: [] ∧ s.run = .running ∧
      s.resetRequest = false ∧ s.pauseRequest = false ∧ (opened s [] false).nmiPending = false ∧
      s.flagI = true ∧ s.firstBoundary = false ∧
      ∃ b ∈ s.breakpoints, b.kind = .pc ∧ b.address.toNat ≤ s.pc.toNat ∧
        s.pc.toNat ≤ (b.endAddress.getD b.address).toNat := by decide

/-- A PC range that ends just below PC, and an Access breakpoint at PC, do not stop the instruction. -/
theorem witness_boundaryOrder_instruction :
    let s := { boundary false false with
      breakpoints := [⟨0x0500, .pc, some 0x05FF⟩, ⟨0x0600, .access, none⟩] }
    s.bus.params.auxPresent = false ∧ s.schedule = ⟨[], false, false⟩ :: [] ∧ s.run = .running ∧
      s.resetRequest = false ∧ s.pauseRequest = false ∧ (opened s [] false).nmiPending = false ∧
      ∀ b ∈ s.breakpoints, b.kind = .pc → b.address.toNat ≤ s.pc.toNat →
        (b.endAddress.getD b.address).toNat < s.pc.toNat := by decide

theorem witness_noInstructionTraps_stops :
    let s := { boundary false false with brkHalt := true }
    (Instr.opcode .unimplementedCB = 0xCB ∧ (0xCB : Byte) ∈ s.params.unimplementedOpcodes) ∧
      (Instr.opcode .unimplementedDB = 0xDB ∧ (0xDB : Byte) ∈ s.params.unimplementedOpcodes) ∧
      Instr.opcode .brk = 0x00 ∧ s.brkHalt = true := by decide

/-- BRK with BRK_HALT false, $CB where it is not configured as unimplemented, and a load with a configuration
that lists its opcode. -/
theorem witness_noInstructionTraps_goesOn :
    let halts := fun (i : Instr) (s : State) =>
      ((i.opcode = 0xCB ∨ i.opcode = 0xDB) ∧ i.opcode ∈ s.params.unimplementedOpcodes) ∨
        (i.opcode = 0x00 ∧ s.brkHalt = true)
    ¬ halts .brk (boundary false false) ∧
      ¬ halts .unimplementedCB { boundary false false with
        params := { Config.CoreParams.spec with unimplementedOpcodes := [0xDB] } } ∧
      ¬ halts (.ldaImm 0) { boundary false false with
        brkHalt := true
        params := { Config.CoreParams.spec with unimplementedOpcodes := [0xA9] } } := by decide

/-- DirectModes: a mode with an effective address, at each end of the page-cross clause. -/
theorem witness_directModes :
    let s := { State.reset with x := 0x01 }
    effectiveAddress (.abx 0x12FF) s = some (0x1300, { s with penalty := true }) ∧
      effectiveAddress (.abx 0x12FE) s = some (0x12FF, { s with penalty := false }) ∧
      effectiveAddress (.abx 0xFFFF) s = some (0x0000, { s with penalty := true }) := by decide

/-- The bus with the language card's bits. -/
def card (bank2 readRam writeRam : Bool) : Bus :=
  { Bus.reset with lcBank2 := bank2, lcReadRam := readRam, lcWriteRam := writeRam }

/-- ReadsDecodeByRegion: both ends of every region, with the bits its clause asks for. -/
theorem witness_readsDecodeByRegion :
    (0xBFFF : Word).toNat ≤ 0xBFFF ∧
      (0xC000 ≤ (0xC000 : Word).toNat ∧ (0xC0FF : Word).toNat ≤ 0xC0FF) ∧
      (0xC100 ≤ (0xC100 : Word).toNat ∧ (0xCFFF : Word).toNat ≤ 0xCFFF) ∧
      (0xD000 ≤ (0xD000 : Word).toNat ∧ (card true false true).lcReadRam = false) ∧
      ((0xDFFF : Word).toNat ≤ 0xDFFF ∧ (card false true false).lcReadRam = true) ∧
      0xE000 ≤ (0xE000 : Word).toNat ∧ 0xE000 ≤ (0xFFFF : Word).toNat := by decide

/-- WritesDecodeByRegion: the same ends; a store in canonical form; and another cell beside the one written. -/
theorem witness_writesDecodeByRegion :
    ((card false true true).store .lc1).wf = true ∧ (card false true true).lcWriteRam = true ∧
      (card true true false).lcWriteRam = false ∧ (Store.lc2, 0x000) ≠ (Store.lc1, 0x000) ∧
      0xD000 ≤ (0xD000 : Word).toNat ∧ (0xDFFF : Word).toNat ≤ 0xDFFF ∧
      0xE000 ≤ (0xE000 : Word).toNat := by decide

theorem witness_switchAccess :
    (card true true true).params.lcBase = 0xC080 ∧
      (0 ≤ 15 ∧ (0xC080 : Word).toNat = 0xC080 + 0 ∧ 0 % 2 = 0) ∧
      (15 ≤ 15 ∧ (0xC08F : Word).toNat = 0xC080 + 15 ∧ 15 % 2 = 1) := by decide

/-- DoubleReadEnables: an access of each kind at the ends of the switches, and accesses beside them. -/
theorem witness_doubleReadEnables :
    let off : Touch := (.read, 0xC090, 0)
    let below : Touch := (.write, 0xC07F, 0)
    Bus.reset.params.lcBase = 0xC080 ∧ ¬ OnSwitch off ∧ ¬ OnSwitch below ∧ Qualifying (.read, 0xC081, 0) ∧ Qualifying (.read, 0xC08F, 0) ∧
      Disabling (.write, 0xC080, 0) ∧ Disabling (.read, 0xC08E, 0) ∧
      (OnSwitch (.write, 0xC08F, 0) ∧ ¬ Qualifying (.write, 0xC08F, 0) ∧
        ¬ Disabling (.write, 0xC08F, 0)) := by
  unfold Qualifying Disabling OnSwitch; decide

/-- IoDispatch: a switch at each end, addresses with a read or a write handler, and addresses without. -/
theorem witness_ioDispatch :
    let b := { Bus.reset with readHandlers := [0x00], writeHandlers := [0x90] }
    b.params.lcBase = 0xC080 ∧ (0xC080 ≤ (0xC080 : Word).toNat ∧ (0xC08F : Word).toNat ≤ 0xC08F) ∧
      ((0xC000 : Word).toNat < 0xC080 ∧ BitVec.ofNat 8 (0xC000 : Word).toNat ∈ b.readHandlers ∧
        BitVec.ofNat 8 (0xC000 : Word).toNat ∉ b.writeHandlers) ∧
      (0xC08F < (0xC090 : Word).toNat ∧ (0xC090 : Word).toNat ≤ 0xC0FF ∧
        BitVec.ofNat 8 (0xC090 : Word).toNat ∉ b.readHandlers ∧
        BitVec.ofNat 8 (0xC090 : Word).toNat ∈ b.writeHandlers) := by decide

theorem witness_accessFrame :
    Bus.reset.params.lcBase = 0xC080 ∧ ¬ OnSwitch (.read, 0xC090, 0) ∧
      ((.read, 0xC090, 0) : Touch).1 = .read ∧ (0xBFFF : Word).toNat < 0xC000 ∧
      0xC0FF < (0xC100 : Word).toNat := by
  unfold OnSwitch; decide

theorem witness_resetSequenceAtBoundary :
    let s := { boundary true true with schedule := [⟨[.reset], true, true⟩] }
    s.bus.params.auxPresent = false ∧ s.params.vecReset = 0xFFFC ∧ s.run = .running ∧
      s.singleStep = false ∧ s.schedule = ⟨[.reset], true, true⟩ :: [] := by decide

theorem witness_hostCommands_noStep : State.reset.run = .stopped ∧ State.reset.schedule = [] := by decide

theorem witness_hostCommands_pause :
    let s := { boundary false false with schedule := [⟨[.pause], false, false⟩] }
    s.bus.params.auxPresent = false ∧ s.run = .running ∧ s.resetRequest = false ∧
      s.singleStep = false ∧ s.schedule = ⟨[.pause], false, false⟩ :: [] := by decide

theorem witness_hostCommands_reset :
    let s := { State.reset with schedule := [⟨[.reset], false, false⟩] }
    s.bus.params.auxPresent = false ∧ s.run = .stopped ∧ s.params.vecReset = 0xFFFC ∧
      s.schedule = ⟨[.reset], false, false⟩ :: [] := by decide

/-- `step` with a reset pending, with an NMI edge, with an IRQ taken, and with an IRQ masked. -/
theorem witness_hostCommands_step :
    let s := { ready 0x0600 [0xEA] [] with run := .stopped, schedule := [⟨[.step], true, true⟩] }
    s.bus.params.auxPresent = false ∧ s.run = .stopped ∧ s.schedule = ⟨[.step], true, true⟩ :: [] ∧
      { s with resetRequest := true }.resetRequest = true ∧ s.resetRequest = false ∧
      (opened s [] true).nmiPending = true ∧ (opened s [] false).nmiPending = false ∧
      s.flagI = false ∧ { s with flagI := true }.flagI = true := by decide

/-- The instruction a `step` runs may halt and may complete. -/
theorem witness_hostCommands_step_reasons :
    let q := fun op : Byte => { ready 0x0600 [op] [] with firstBoundary := true, singleStep := true }
    (∃ u, executeInstruction (q 0xEA) = .next u ∧ u.run = .running) ∧
      ∃ u, executeInstruction (q 0xCB) = .next u ∧ u.run = .stopped := by
  exact ⟨⟨_, rfl, rfl⟩, ⟨_, rfl, rfl⟩⟩

theorem witness_hostCommands_run :
    let s := { State.reset with schedule := [⟨[.run], false, false⟩] }
    s.bus.params.auxPresent = false ∧ s.run = .stopped ∧ s.resetRequest = false ∧
      s.pauseRequest = false ∧ s.nmiPending = false ∧
      s.schedule = ⟨[.run], false, false⟩ :: [] := by decide

/-- HostEditsBetweenSteps: entries at both ends of the card's sixteen and beside them; two breakpoint entries
that differ in their `endAddress` alone; an edit on a Stopped and on a Running core. -/
theorem witness_hostEditsBetweenSteps :
    State.reset.bus.params.lcBase = 0xC080 ∧
      [0x7F, 0x80, 0x8F, 0x90].map (fun e : Nat => decide (e < 0x80 ∨ 0x8F < e)) =
        [true, false, false, true] ∧
      (⟨0x0600, .pc, none⟩ : Breakpoint) ≠ ⟨0x0600, .pc, some 0x0600⟩ ∧
      (let c := HostCommand.setBrkHalt true
        let s := { State.reset with schedule := [⟨[c], true, true⟩] }
        s.bus.params.auxPresent = false ∧ isEdit c = true ∧ s.run = .stopped ∧
          s.schedule = ⟨[c], true, true⟩ :: [] ∧ { s with run := .running }.run = .running) := by decide

/-- LoadInstallsImages: a byte in each store at its last address, in canonical stores, and a byte that names no
cell. -/
theorem witness_loadInstallsImages :
    LoadCell none (0xBFFE + BitVec.ofNat 16 1) .ram 0xBFFF ∧ LoadCell none 0xC100 .rom 0xC100 ∧
      LoadCell (some .lc1) 0xDFFF .lc1 0x0FFF ∧ LoadCell (some .lc2) 0xD000 .lc2 0x0000 ∧
      LoadCell (some .lch) 0xFFFF .lch 0x1FFF ∧ ¬ LoadCell none 0xC000 .ram 0xC000 ∧
      (∀ st, (Bus.reset.store st).wf = true) ∧ ([0x11, 0x22] : List Byte)[1]? = some 0x22 := by
  refine ⟨?_, ?_, ?_, ?_, ?_, ?_, ?_, rfl⟩
  · exact .inl (by decide)
  · exact .inr (by decide)
  · unfold LoadCell; decide
  · unfold LoadCell; decide
  · unfold LoadCell; decide
  · unfold LoadCell; decide
  · intro st; cases st <;> rfl

/-- Every operand table has rows, so that no statement over its rows is empty. -/
theorem witness_rows :
    [(ldaRows 0 0 0).length, (ldxRows 0 0 0).length, (ldyRows 0 0 0).length, (staRows 0 0).length,
      (stxRows 0 0).length, (styRows 0 0).length, (stzRows 0 0).length, (adcRows 0 0 0).length,
      (sbcRows 0 0 0).length, (cmpRows 0 0 0).length, (cpxRows 0 0 0).length, (cpyRows 0 0 0).length,
      (andRows 0 0 0).length, (oraRows 0 0 0).length, (eorRows 0 0 0).length, (bitRows 0 0).length,
      (bitImmRows 0).length, (tsbRows 0 0).length, (trbRows 0 0).length, (aslRows 0 0).length,
      (lsrRows 0 0).length, (rolRows 0 0).length, (rorRows 0 0).length, (incRows 0 0).length,
      (decRows 0 0).length, (branchRows 0).length, (braRows 0).length, (jmpAbsRows 0).length,
      (jmpIndRows 0).length, (jmpIaxRows 0).length, (jsrRows 0).length, rtsRows.length,
      brkRows.length, rtiRows.length, (rmbRows 0).length, (smbRows 0).length, (bbrRows 0 0).length,
      (bbsRows 0 0).length, transferToARows.length, transferToXRows.length, tayRows.length,
      txsRows.length, stepXRows.length, stepYRows.length, pushRows.length, plaRows.length,
      plxRows.length, plyRows.length, plpRows.length, flagRows.length, (nopRows 0 0 0).length,
      unimplementedRows.length] =
    [9, 5, 5, 8, 3, 3, 4, 9, 9, 9, 3, 3, 9, 9, 9, 4, 1, 2, 2, 5, 5, 5, 5, 5, 5, 8, 1, 1, 1, 1, 1, 1, 1, 1,
      8, 8, 8, 8, 2, 2, 1, 1, 2, 2, 4, 1, 1, 1, 1, 7, 45, 2] := by decide

/-- AdcAddsByMode, SbcSubtractsByMode: both modes. -/
theorem witness_adcSbcModes :
    (boundary false false).flagD = false ∧ { boundary false false with flagD := true }.flagD = true := by
  decide

/-- DecimalAddition, DecimalSubtraction: valid BCD up to $99; an l of 9 and one of 10, a u just below $A0 and
one at it; a configuration the spec allows with a case of its own, operands it is for, and operands it is not. -/
theorem witness_decimal :
    (validBcd 0x99 ∧ validBcd 0x00 ∧ ¬ validBcd 0x9A ∧ ¬ validBcd 0xA0) ∧
      0x04 + 0x05 + 0 ≤ 9 ∧ 9 < 0x04 + 0x05 + 1 ∧ 0x50 + 0x40 + 0x0F < 0xA0 ∧
      0xA0 ≤ 0x50 + 0x40 + 0x10 ∧
      (let e : Config.DecCase := ⟨0x9A, 0x01, true, 0x77, false⟩;
        coreParamsOk { Config.CoreParams.spec with decSbc := [e] } ∧
          (e.a = 0x9A ∧ e.m = 0x01 ∧ e.c = true) ∧ ¬ (e.a = 0x9A ∧ e.m = 0x01 ∧ e.c = false)) := by
  unfold validBcd coreParamsOk; decide

/-- AdcThenSbc: binary mode. BrkEntersHandler, BrkThenRti, JsrThenRts: BRK_HALT false and a canonical RAM. -/
theorem witness_registersAndStack :
    let s := ready 0x0601 [] [(0x0300, 0x55)]
    s.flagD = false ∧ s.brkHalt = false ∧ s.params.vecIrq = 0xFFFE ∧ (s.bus.store .ram).wf = true ∧ s.bus.ram ≠ [] := by decide

theorem witness_brkHaltsForDebugger :
    let s := { boundary false false with brkHalt := true }
    s.brkHalt = true ∧ s.params.brkHaltPcOffset = 1 := by decide

/-- UnimplementedOpcodesHalt, JumpsLoadPc: the parameters of R6, and a configuration with the other values. -/
theorem witness_otherConfiguration :
    let p := { Config.CoreParams.spec with unimplementedOpcodes := [0xDB], jmpIndPageWrap := true }
    (0xCB : Byte) ∈ Config.CoreParams.spec.unimplementedOpcodes ∧ (0xCB : Byte) ∉ p.unimplementedOpcodes ∧
      Config.CoreParams.spec.jmpIndPageWrap = false ∧ p.jmpIndPageWrap = true := by decide

/-- The forms of a read-modify-write row, by its mode. -/
theorem witness_modifies :
    Row.o ⟨.aslAcc, .acc, 0x0A, 1, 2, false⟩ = .acc ∧ Row.o ⟨.aslZp 0, .zp 0, 0x06, 2, 5, false⟩ ≠ .acc := by
  decide

/-- Landed: a write that lands and one that is dropped, on canonical stores. Pushed: the first byte pushed. -/
theorem witness_landed :
    (card true true true).writeMap 0xD000 = some (.lc2, 0) ∧ ((card true true true).store .lc2).wf = true ∧
      (card true true false).writeMap 0xD000 = none ∧ ([0x12, 0x34] : List Byte)[0]? = some 0x12 ∧
      (Bus.reset.store .ram).wf = true := by decide

/-- ConditionalBranches, JumpsLoadPc: both ends of the displacement, and a condition that holds and fails. -/
theorem witness_branches :
    displacementOk (-128) = true ∧ displacementOk 127 = true ∧
      (branchRows 127).map (fun p => p.2 (boundary false false)) =
        [true, false, true, false, true, false, true, false] := by decide

/-- BranchOnMemoryBit: an access list with a last element; a bit that is set and one that is clear. -/
theorem witness_branchOnMemoryBit :
    displacementOk (-128) = true ∧
      (∃ pre x, (afterRead []).bus.accesses = pre ++ [x]) ∧
      ((ready 0x0603 [] [(0x20, 0x80)]).bus.byteAt .ram 0x20).getLsbD 7 = true ∧
      ((ready 0x0603 [] [(0x20, 0x80)]).bus.byteAt .ram 0x20).getLsbD 0 = false :=
  ⟨by decide, ⟨[⟨.read, 0x0600, 0xA5⟩, ⟨.read, 0x0601, 0x10⟩], ⟨.read, 0x0010, 0x00⟩, rfl⟩, by decide,
    by decide⟩

/-- InterruptsAtBoundary: an NMI edge, a latched NMI, an IRQ taken, and an IRQ masked. -/
theorem witness_interruptsAtBoundary :
    (AtBoundary (boundary true true) true true [] ∧ ((boundary true true).nmiPending || true) = true) ∧
      (AtBoundary { boundary false false with nmiPending := true } false false []) ∧
      (AtBoundary (boundary true false) true false [] ∧
        ((boundary true false).nmiPending || false) = false ∧ (boundary true false).flagI = false) ∧
      (AtBoundary { boundary true false with flagI := true } true false [] ∧
        { boundary true false with flagI := true }.flagI = true) ∧
      (boundary true true).params.vecNmi = 0xFFFA ∧ (boundary true true).params.vecIrq = 0xFFFE := by
  unfold AtBoundary; decide

/-- What the meaning of an instruction makes of a state. -/
def execd (i : Instr) (s : State) : Option State :=
  match exec i s with
  | .next t => some t
  | .fault _ => none
  | .refused _ => none

/-- OnlyListedInstructionsWrite: each of its registers and flags is changed by some instruction. -/
theorem witness_onlyListedInstructionsWrite :
    let s := { ready 0x0601 [] [] with x := 0x80 }
    (execd .txs s).map State.sp ≠ some s.sp ∧ (execd .sec s).map State.flagC ≠ some s.flagC ∧
      (execd .sed s).map State.flagD ≠ some s.flagD ∧ (execd .sei s).map State.flagI ≠ some s.flagI ∧
      (execd .brk s).map State.flagB ≠ some s.flagB ∧
      (execd .clv { s with flagV := true }).map State.flagV ≠ some true ∧
      (execd (.ldaAbs 0xC07F) s).map (fun t => t.bus.accesses.map BusAccess.addr) = some [0xC07F] := by
  decide

theorem witness_selfLoop_bra :
    let s := ready 0x0600 [0x80, 0xFE] []
    s.TerminatesAt 0x0600 ∧ s.Quiet ∧ s.breakpoints = [] ∧ s.singleStep = false :=
  ⟨⟨rfl, .inl (by decide), fun h => nomatch h.1⟩, ⟨rfl, rfl, rfl, rfl, rfl, rfl, .inl rfl⟩, rfl, rfl⟩

/-- A JMP to itself whose last byte lies at $0000. -/
theorem witness_selfLoop_jmp :
    let s := ready 0xFFFE [0x4C, 0xFE, 0xFF] []
    s.TerminatesAt 0xFFFE ∧ s.Quiet ∧ s.breakpoints = [] ∧ s.singleStep = false :=
  ⟨⟨rfl, .inr (by decide), fun h => nomatch h.1⟩, ⟨rfl, rfl, rfl, rfl, rfl, rfl, .inl rfl⟩, rfl, rfl⟩

/-- EveryStepKeepsInv: a state that meets the invariant, with something in a store, a handler of each kind and a
breakpoint, and that takes a step. -/
def invariantState : State :=
  let s := ready 0x0600 [0xEA] [(0xC100, 0x01)]
  { s with
    breakpoints := [⟨0x0700, .pc, none⟩]
    bus := { s.bus with readHandlers := [0x7F], writeHandlers := [0x90] } }

theorem witness_everyStepKeepsInv :
    invariantState.Inv ∧ ran invariantState id (fun t => t.pc) = some 0x0601 := by
  refine ⟨⟨by unfold coreParamsOk; decide, ⟨by unfold paramsOk; decide, ?_, by unfold Bus.handlersOk; decide,
    by unfold Bus.handlersOk; decide⟩, by decide, by decide⟩, by decide⟩
  intro st
  unfold Bus.storeOk
  cases st <;> decide

end Sys2Proof.Tests
end

section
/-! PROOFS. The statements of 10_state.md: the values after reset, the status byte, and which instructions can
change which parts of the state. -/

namespace Sys2Proof.Machine

/-! ### The status byte -/

/-- A field of one bit shifts what stands above it by one place. -/
theorem toNat_append_bit {w : Nat} (x : BitVec w) (y : BitVec 1) :
    (x ++ y).toNat = 2 * x.toNat + y.toNat := by
  rw [BitVec.toNat_append, ← Nat.shiftLeft_add_eq_or_of_lt y.isLt, Nat.shiftLeft_eq]
  omega

theorem pack_toNat (b : Bool) (s : State) :
    (pack b s).toNat = 128 * s.flagN.toNat + 64 * s.flagV.toNat + 32 + 16 * b.toNat +
      8 * s.flagD.toNat + 4 * s.flagI.toNat + 2 * s.flagZ.toNat + s.flagC.toNat := by
  simp only [pack, toNat_append_bit, BitVec.toNat_ofBool, BitVec.toNat_ofNat]
  omega

theorem toNat_getLsbD (v : Byte) (k : Nat) : (v.getLsbD k).toNat = v.toNat / 2 ^ k % 2 :=
  Nat.toNat_testBit v.toNat k

/-- Bit 0 of the same word is that field, and the bits above it are those of the rest. -/
theorem getLsbD_append_bit {w : Nat} (x : BitVec w) (y : BitVec 1) (k : Nat) :
    (x ++ y).getLsbD k = if k = 0 then y.getLsbD 0 else x.getLsbD (k - 1) := by
  rw [BitVec.getLsbD_append]
  cases k <;> simp

theorem unpack_pack (b : Bool) (s : State) : unpack (pack b s) s = s := by
  simp only [unpack, pack, getLsbD_append_bit, BitVec.getLsbD_ofBool]
  rfl

/-! ### The stores at power-on -/

@[simp] theorem Bus.reset_byteAt (st : Store) (i : Nat) : Bus.reset.byteAt st i = 0 := by
  cases st <;> rfl

/-! ### Which instructions write a field -/

/-- The table `extraWrites` read the other way round: for each field beside the bus, PC, A, X, Y, N, Z, the
page-cross bit and the cycles, the mnemonics that can write it. -/
def writers : Field → List Mnemonic
  | .sp => [.txs, .pha, .phx, .phy, .php, .pla, .plx, .ply, .plp, .jsr, .rts, .brk, .rti]
  | .flagV => [.adc, .sbc, .bit, .clv, .plp, .rti]
  | .flagC => [.adc, .sbc, .cmp, .cpx, .cpy, .asl, .rol, .lsr, .ror, .clc, .sec, .plp, .rti]
  | .flagD => [.sed, .cld, .plp, .rti, .brk]
  | .flagI => [.sei, .cli, .plp, .rti, .brk]
  | .flagB => [.brk]
  | .draws => [.adc, .sbc]
  | .run | .stopReason => [.brk, .unimplemented]
  | _ => []

theorem mem_writers_of_mem_extraWrites (m : Mnemonic) : ∀ f ∈ extraWrites m, m ∈ writers f := by
  unfold extraWrites
  split <;> simp [writers]

/-- The fields that any instruction may write, whatever its mnemonic: the part common to all of `writes`. -/
def commonWrites : List Field := [.bus, .penalty, .cycles, .pc, .a, .x, .y, .flagN, .flagZ]

/-- An instruction that changes a field outside the common ones is one of that field's writers. -/
theorem mnemonic_mem_writers {i : Instr} {s t : State} (h : exec i s = .next t) {f : Field}
    (hf : f ∉ commonWrites) (hne : ¬ f.same s t) : i.mnemonic ∈ writers f := by
  have hw : f ∈ writes i.mnemonic := by_contra fun hw => hne (exec_frame h f hw)
  exact mem_writers_of_mem_extraWrites _ f ((List.mem_append.1 hw).resolve_left hf)

theorem exec_params {i : Instr} {s t : State} (h : exec i s = .next t) : t.params = s.params :=
  by_contra fun hne =>
    absurd (mnemonic_mem_writers h (f := .params) (by decide) hne) List.not_mem_nil

/-! ### What a run of bus accesses keeps -/

/-- No access noted so far is of a language-card switch, with `LC_BASE` = $C080 (R6, R66). -/
def Bus.OffSwitches (b : Bus) : Prop :=
  ∀ x ∈ b.accesses, x.addr.toNat < 0xC080 ∨ 0xC08F < x.addr.toNat

/-- The second bus has the first one's ROM, handler tables and configuration, and its language card too unless
a switch stands among its accesses. -/
structure Bus.AccessedFrom (b c : Bus) : Prop where
  rom : ∀ k, c.byteAt .rom k = b.byteAt .rom k
  readHandlers : c.readHandlers = b.readHandlers
  writeHandlers : c.writeHandlers = b.writeHandlers
  params : c.params = b.params
  card : b.params.lcBase = 0xC080 → c.OffSwitches → SameCard b c

theorem SameCard.refl (b : Bus) : SameCard b b := ⟨rfl, rfl, rfl, rfl⟩

theorem SameCard.trans {b c d : Bus} (h : SameCard b c) (g : SameCard c d) : SameCard b d := by
  obtain ⟨h1, h2, h3, h4⟩ := h
  obtain ⟨g1, g2, g3, g4⟩ := g
  exact ⟨g1.trans h1, g2.trans h2, g3.trans h3, g4.trans h4⟩

theorem Bus.AccessedFrom.refl (b : Bus) : b.AccessedFrom b where
  rom _ := rfl
  readHandlers := rfl
  writeHandlers := rfl
  params := rfl
  card _ _ := SameCard.refl b

/-- One access more: if it keeps the parts that no access changes and the earlier notes, and keeps the card
when it is off the switches, then so does the whole run. -/
theorem Bus.AccessedFrom.access {b c d : Bus} (h : b.AccessedFrom c)
    (rom : ∀ k, d.byteAt .rom k = c.byteAt .rom k) (readHandlers : d.readHandlers = c.readHandlers)
    (writeHandlers : d.writeHandlers = c.writeHandlers) (params : d.params = c.params)
    (notes : c.accesses ⊆ d.accesses)
    (card : c.params.lcBase = 0xC080 → d.OffSwitches → SameCard c d) : b.AccessedFrom d where
  rom k := (rom k).trans (h.rom k)
  readHandlers := readHandlers.trans h.readHandlers
  writeHandlers := writeHandlers.trans h.writeHandlers
  params := params.trans h.params
  card hb hd :=
    (h.card hb fun x hx => hd x (notes hx)).trans (card (by rw [h.params, hb]) hd)

/-- The address of an access noted on a bus whose notes are off the switches is no switch. -/
theorem Bus.OffSwitches.isSwitch_eq_false {b c : Bus} {x : BusAccess} (h : c.OffSwitches)
    (hb : b.params.lcBase = 0xC080) (hx : x ∈ c.accesses) : b.isSwitch x.addr = false := by
  rw [Bool.eq_false_iff, ne_eq, Bus.isSwitch_iff hb]
  have := h x hx
  omega

theorem Bus.AccessedFrom.read {b c : Bus} (h : b.AccessedFrom c) (a : Word) :
    b.AccessedFrom (c.read a).2 :=
  h.access (by simp) (by simp) (by simp) (by simp) (by simp) fun hb hd =>
    Bus.read_sameCard c (hd.isSwitch_eq_false (x := ⟨.read, a, (c.read a).1⟩) hb (by simp))

theorem Bus.AccessedFrom.write {b c : Bus} (h : b.AccessedFrom c) (a : Word) (v : Byte) :
    b.AccessedFrom (c.write a v) :=
  h.access (Bus.write_rom c a v) (by simp) (by simp) (by simp) (by simp) fun hb hd =>
    Bus.write_sameCard c v (hd.isSwitch_eq_false (x := ⟨.write, a, v⟩) hb (by simp))

theorem subset_insertBeforeLast {α : Type} (x : α) (l : List α) : l ⊆ insertBeforeLast x l := by
  induction l using insertBeforeLast.induct with
  | case1 => simp [insertBeforeLast]
  | case2 y => simp [insertBeforeLast]
  | case3 y ys hys ih => simpa [insertBeforeLast, hys] using List.cons_subset_cons y ih

/-- The data read of BBR and BBS is of page zero: it changes nothing of the bus but the notes. -/
theorem readZpr_bus (z : Byte) (s : State) :
    (readZpr z s).2.bus = { s.bus with
      accesses := insertBeforeLast ⟨.read, zeroPage z, (readZpr z s).1⟩ s.bus.accesses } := by
  simp [readZpr, Bus.readRaw, Bus.readMap_ram s.bus (zeroPage_ram z)]

theorem Bus.AccessedFrom.readZpr {b : Bus} {s : State} (h : b.AccessedFrom s.bus) (z : Byte) :
    b.AccessedFrom (readZpr z s).2.bus := by
  rw [readZpr_bus]
  exact h.access (fun _ => rfl) rfl rfl rfl (subset_insertBeforeLast _ _)
    fun _ _ => ⟨rfl, rfl, rfl, rfl⟩

theorem exec_accessedFrom {i : Instr} {s t : State} (h : exec i s = .next t) :
    s.bus.AccessedFrom t.bus :=
  exec_bus (fun _ a hc => hc.read a) (fun _ a v hc => hc.write a v) (fun _ z hc => hc.readZpr z) h
    (.refl s.bus)

end Sys2Proof.Machine

namespace Sys2Proof.Proofs

open Sys2Proof.Machine Sys2Proof.Claims

/-- Settles O57: an instruction that changes a field is one of its writers (`mnemonic_mem_writers`), and its bus
is reached by accesses alone (`exec_accessedFrom`). -/
theorem onlyListedInstructionsWrite : Obligations.OnlyListedInstructionsWrite := by
  intro i s
  obtain ⟨t, ht, -⟩ := exec_does i s
  have changed {f : Field} (hf : f ∉ commonWrites) (hne : ¬ f.same s t) : i.mnemonic ∈ writers f :=
    mnemonic_mem_writers ht hf hne
  have bus := exec_accessedFrom ht
  exact ⟨t, ht, changed (f := .sp) (by decide), changed (f := .flagV) (by decide),
    changed (f := .flagC) (by decide), changed (f := .flagD) (by decide),
    changed (f := .flagI) (by decide),
    fun hne => List.mem_singleton.1 (changed (f := .flagB) (by decide) hne),
    bus.rom, bus.readHandlers, bus.writeHandlers, exec_params ht, bus.params, bus.card⟩

/-- Settles O17: the values are those of `State.reset`; PC is 0, and so is the vector in a ROM that holds
nothing. -/
theorem resetValuesOfTheSpec : Obligations.ResetValuesOfTheSpec :=
  ⟨rfl, rfl, rfl, rfl, rfl, rfl, rfl, rfl, rfl, rfl, Bus.reset_byteAt .rom, rfl⟩

/-- Settles O18: the values are those of `State.reset`, and nothing is listed in any store. -/
theorem resetValuesChosen : Obligations.ResetValuesChosen :=
  ⟨rfl, rfl, rfl, rfl, rfl, rfl, rfl, rfl, rfl, rfl, rfl, rfl, rfl, rfl, rfl, rfl, Bus.reset_byteAt⟩

/-- Settles O23: each field of one bit doubles the number above it (`pack_toNat`), and bit k of a byte is its
number divided by 2^k, modulo 2 (`toNat_getLsbD`); bit 7 has nothing above it to take the modulus of. -/
theorem statusByte : Obligations.StatusByte := by
  intro s b v
  refine ⟨pack_toNat b s, ⟨?_, ?_, ?_, ?_, ?_, ?_, unpack_frame v s⟩, unpack_pack b s⟩
  · rw [unpack_flagN, toNat_getLsbD]
    omega
  all_goals simp only [unpack_flagV, unpack_flagD, unpack_flagI, unpack_flagZ, unpack_flagC,
    toNat_getLsbD, Nat.reducePow, Nat.div_one]

end Sys2Proof.Proofs
end

section
/-! PROOFS. The statements of 20_memory.md: the bus decoder, the language card, the I/O page, `load`, and the
invariant that every step keeps. -/

namespace Sys2Proof.Machine

open Sys2Proof.Claims

/-! ### The maps, region by region -/

theorem Bus.readMap_lowRom (b : Bus) {a : Word} (h : 0xC100 ≤ a.toNat ∧ a.toNat ≤ 0xCFFF) :
    b.readMap a = some (.rom, a.toNat) := by
  rw [Bus.readMap, if_neg (by omega), if_neg (by omega), if_pos h.2]

theorem Bus.readMap_highRom {b : Bus} {a : Word} (h : 0xD000 ≤ a.toNat) (hr : b.lcReadRam = false) :
    b.readMap a = some (.rom, a.toNat) := by
  rw [Bus.readMap, if_neg (by omega), if_neg (by omega), if_neg (by omega), hr]
  rfl

theorem Bus.cardCell_bank (b : Bus) {a : Word} (h : a.toNat ≤ 0xDFFF) :
    b.cardCell a = (b.bank, a.toNat - 0xD000) := if_pos h

theorem Bus.cardCell_lch (b : Bus) {a : Word} (h : 0xE000 ≤ a.toNat) :
    b.cardCell a = (.lch, a.toNat - 0xE000) := if_neg (by omega)

theorem Bus.readMap_card {b : Bus} {a : Word} (h : 0xD000 ≤ a.toNat) (hr : b.lcReadRam = true) :
    b.readMap a = some (b.cardCell a) := by
  rw [Bus.readMap, if_neg (by omega), if_neg (by omega), if_neg (by omega), if_pos hr]

theorem Bus.writeMap_card {b : Bus} {a : Word} (h : 0xD000 ≤ a.toNat) (hw : b.lcWriteRam = true) :
    b.writeMap a = some (b.cardCell a) := by
  rw [Bus.writeMap, if_neg (by omega), if_neg (by omega), if_pos hw]

theorem Bus.writeMap_lowRom (b : Bus) {a : Word} (h : 0xC100 ≤ a.toNat ∧ a.toNat ≤ 0xCFFF) :
    b.writeMap a = none := by
  rw [Bus.writeMap, if_neg (by omega), if_pos h.2]

theorem Bus.writeMap_protected {b : Bus} {a : Word} (h : 0xD000 ≤ a.toNat)
    (hw : b.lcWriteRam = false) : b.writeMap a = none := by
  rw [Bus.writeMap, if_neg (by omega), if_neg (by omega), hw]
  rfl

theorem isIo_iff (a : Word) : isIo a = true ↔ 0xC000 ≤ a.toNat ∧ a.toNat ≤ 0xC0FF := by
  simp [isIo]

theorem isIo_eq_false_iff (a : Word) :
    isIo a = false ↔ a.toNat < 0xC000 ∨ 0xC0FF < a.toNat := by
  rw [Bool.eq_false_iff, ne_eq, isIo_iff]
  omega

/-! ### One access outside the I/O page, and one inside -/

theorem Bus.exists_readMap (b : Bus) {a : Word} (h : isIo a = false) : ∃ c, b.readMap a = some c :=
  Option.ne_none_iff_exists'.1 fun hn => by simp [(b.readMap_eq_none a).1 hn] at h

theorem Bus.read_io (b : Bus) {a : Word} (h : isIo a = true) :
    b.read a = ((b.ioRead a).1, (b.ioRead a).2.note ⟨.read, a, (b.ioRead a).1⟩) := by
  simp only [Bus.read, Bus.readRaw, (b.readMap_eq_none a).2 h]

theorem Bus.write_io (b : Bus) {a : Word} (v : Byte) (h : isIo a = true) :
    b.write a v = (b.ioWrite a v).note ⟨.write, a, v⟩ := by
  simp only [Bus.write, Bus.writeRaw, h, if_true]

theorem Bus.write_mapped {b : Bus} {a : Word} {c : Store × Nat} (v : Byte)
    (h : b.writeMap a = some c) : b.write a v = (b.poke c.1 c.2 v).note ⟨.write, a, v⟩ := by
  have hi : isIo a = false := Bool.eq_false_iff.2 fun hi => by simp [b.writeMap_io hi] at h
  simp only [Bus.write, Bus.writeRaw, hi, Bool.false_eq_true, if_false, h]

theorem Bus.write_unmapped {b : Bus} {a : Word} (v : Byte) (hi : isIo a = false)
    (h : b.writeMap a = none) : b.write a v = b.note ⟨.write, a, v⟩ := by
  simp only [Bus.write, Bus.writeRaw, hi, Bool.false_eq_true, if_false, h]

/-- The byte of a read outside the I/O page is that of the cell its address maps to. -/
theorem Bus.read_val {b : Bus} {a : Word} {st : Store} {i : Nat} (h : b.readMap a = some (st, i)) :
    (b.read a).1 = b.byteAt st i := by rw [Bus.read_of_map h]

/-- A read outside the I/O page only notes itself (R65). -/
theorem Bus.read_noted (b : Bus) {a : Word} (h : isIo a = false) :
    (b.read a).2 = b.note ⟨.read, a, (b.read a).1⟩ := by
  obtain ⟨c, hc⟩ := b.exists_readMap h
  rw [Bus.read_of_map hc]

theorem Bus.poke_sameCard (b : Bus) (st : Store) (i : Nat) (v : Byte) :
    SameCard b (b.poke st i v) := by simp [SameCard, Bus.poke]

theorem Bus.note_sameCard (b : Bus) (x : BusAccess) : SameCard b (b.note x) := ⟨rfl, rfl, rfl, rfl⟩

/-- A write that is not dropped puts its byte in the cell its address maps to and does nothing else (R61). -/
theorem Bus.write_landing {b : Bus} {a : Word} {st : Store} {i : Nat} (v : Byte)
    (h : b.writeMap a = some (st, i)) :
    ((b.store st).wf = true → (b.write a v).byteAt st i = v) ∧
      (∀ (st' : Store) (j : Nat), (st', j) ≠ (st, i) →
        (b.write a v).byteAt st' j = b.byteAt st' j) ∧
      SameCard b (b.write a v) ∧ (b.write a v).accesses = b.accesses ++ [⟨.write, a, v⟩] := by
  refine ⟨Bus.write_lands v h, fun st' j hj => ?_, ?_, Bus.write_accesses b a v⟩
  · exact Bus.write_sameStoresBut b a v st' j fun he => hj (by simpa using he.symm.trans h)
  · rw [Bus.write_mapped v h]
    exact (Bus.poke_sameCard b st i v).trans (Bus.note_sameCard _ _)

/-! ### Any access -/

/-- Outside the I/O page an access has no side effect beyond its store (R65). -/
theorem touch_offIo (b : Bus) {x : Touch} (h : isIo x.2.1 = false) :
    SameCard b (touch b x) ∧ (touch b x).deviceWrites = b.deviceWrites ∧
      (touch b x).deviceReads = b.deviceReads := by
  obtain ⟨_ | _, a, v⟩ := x
  · rw [touch, Bus.read_noted b h]
    exact ⟨Bus.note_sameCard _ _, rfl, rfl⟩
  · cases hm : b.writeMap a with
    | none =>
      rw [touch, Bus.write_unmapped v h hm]
      exact ⟨Bus.note_sameCard _ _, rfl, rfl⟩
    | some c =>
      rw [touch, Bus.write_mapped v hm]
      exact ⟨(Bus.poke_sameCard b c.1 c.2 v).trans (Bus.note_sameCard _ _),
        Bus.setStore_deviceWrites _ _ _, Bus.setStore_deviceReads _ _ _⟩

@[simp] theorem touch_params (b : Bus) (x : Touch) : (touch b x).params = b.params := by
  obtain ⟨_ | _, a, v⟩ := x <;> simp [touch]

@[simp] theorem touch_readHandlers (b : Bus) (x : Touch) :
    (touch b x).readHandlers = b.readHandlers := by
  obtain ⟨_ | _, a, v⟩ := x <;> simp [touch]

@[simp] theorem touch_writeHandlers (b : Bus) (x : Touch) :
    (touch b x).writeHandlers = b.writeHandlers := by
  obtain ⟨_ | _, a, v⟩ := x <;> simp [touch]

theorem touch_rom (b : Bus) (x : Touch) (i : Nat) : (touch b x).byteAt .rom i = b.byteAt .rom i := by
  obtain ⟨_ | _, a, v⟩ := x
  · exact Bus.read_byteAt b a .rom i
  · exact Bus.write_rom b a v i

/-- An access off the sixteen switches leaves the language card as it is (R65). -/
theorem touch_sameCard {b : Bus} {x : Touch} (hb : b.params.lcBase = 0xC080) (hx : ¬ OnSwitch x) :
    SameCard b (touch b x) := by
  have hs : b.isSwitch x.2.1 = false := Bool.eq_false_iff.2 fun h => hx ((Bus.isSwitch_iff hb _).1 h)
  obtain ⟨_ | _, a, v⟩ := x
  · exact Bus.read_sameCard b hs
  · exact Bus.write_sameCard b v hs

/-! ### A switch access -/

theorem getLsbD_eq_true_iff (a : Word) (k : Nat) :
    a.getLsbD k = true ↔ a.toNat / 2 ^ k % 2 = 1 := by
  rw [BitVec.getLsbD, Nat.testBit_eq_decide_div_mod_eq, decide_eq_true_eq]

theorem Bus.lcAccess_lcBank2 (b : Bus) (a : Word) (d : Dir) :
    (b.lcAccess a d).lcBank2 = true ↔ a.toNat % 16 < 8 := by
  have h : (b.lcAccess a d).lcBank2 = !a.getLsbD 3 := by
    cases d <;> simp only [Bus.lcAccess] <;> split <;> rfl
  have := getLsbD_eq_true_iff a 3
  rw [h, Bool.not_eq_true', Bool.eq_false_iff, ne_eq, this]
  omega

theorem Bus.lcAccess_lcReadRam (b : Bus) (a : Word) (d : Dir) :
    (b.lcAccess a d).lcReadRam = true ↔ a.toNat % 4 = 0 ∨ a.toNat % 4 = 3 := by
  have h : (b.lcAccess a d).lcReadRam = (a.getLsbD 1 == a.getLsbD 0) := by
    cases d <;> simp only [Bus.lcAccess] <;> split <;> rfl
  rw [h, beq_iff_eq, Bool.eq_iff_iff, getLsbD_eq_true_iff, getLsbD_eq_true_iff]
  omega

/-- An even switch clears the counter and the write enable (R67). -/
theorem Bus.lcAccess_even (b : Bus) {a : Word} (d : Dir) (h : a.toNat % 2 = 0) :
    (b.lcAccess a d).lcPreWrite = false ∧ (b.lcAccess a d).lcWriteRam = false := by
  have h0 : a.getLsbD 0 = false := by
    rw [Bool.eq_false_iff, ne_eq, getLsbD_eq_true_iff]
    omega
  simp only [Bus.lcAccess, h0, Bool.not_false, if_true, and_self]

/-- A write of an odd switch clears the counter only (R67). -/
theorem Bus.lcAccess_oddWrite (b : Bus) {a : Word} (h : a.toNat % 2 = 1) :
    (b.lcAccess a .write).lcPreWrite = false ∧ (b.lcAccess a .write).lcWriteRam = b.lcWriteRam := by
  have h0 : a.getLsbD 0 = true := by rw [getLsbD_eq_true_iff]; omega
  simp only [Bus.lcAccess, h0, Bool.not_true, Bool.false_eq_true, if_false, and_self]

/-- A read of an odd switch counts, and enables writing if the counter was set (R67). -/
theorem Bus.lcAccess_oddRead (b : Bus) {a : Word} (h : a.toNat % 2 = 1) :
    (b.lcAccess a .read).lcPreWrite = true ∧
      (b.lcAccess a .read).lcWriteRam = (b.lcWriteRam || b.lcPreWrite) := by
  have h0 : a.getLsbD 0 = true := by rw [getLsbD_eq_true_iff]; omega
  simp only [Bus.lcAccess, h0, Bool.not_true, Bool.false_eq_true, if_false, and_self]

/-- To the card a switch access is `LCAccess` (R66, R70). -/
theorem touch_switch {b : Bus} {x : Touch} (hb : b.params.lcBase = 0xC080) (hx : OnSwitch x) :
    SameCard (b.lcAccess x.2.1 x.1) (touch b x) := by
  have hs : b.isSwitch x.2.1 = true := (Bus.isSwitch_iff hb _).2 hx
  have hi : isIo x.2.1 = true := by
    obtain ⟨hlo, hhi⟩ := hx
    exact (isIo_iff _).2 ⟨by omega, by omega⟩
  obtain ⟨_ | _, a, v⟩ := x
  · simp only [touch, Bus.read_switch b hi hs, Bus.note_sameCard]
  · simp only [touch, Bus.write_switch b v hi hs, Bus.note_sameCard]

section
variable {b : Bus} {x : Touch} (hb : b.params.lcBase = 0xC080)
include hb

theorem touch_switch_lcBank2 (hx : OnSwitch x) :
    (touch b x).lcBank2 = true ↔ x.2.1.toNat % 16 < 8 := by
  rw [(touch_switch hb hx).1, Bus.lcAccess_lcBank2]

theorem touch_switch_lcReadRam (hx : OnSwitch x) :
    (touch b x).lcReadRam = true ↔ x.2.1.toNat % 4 = 0 ∨ x.2.1.toNat % 4 = 3 := by
  rw [(touch_switch hb hx).2.1, Bus.lcAccess_lcReadRam]

theorem touch_disabling (hx : Disabling x) :
    (touch b x).lcPreWrite = false ∧ (touch b x).lcWriteRam = false := by
  obtain ⟨-, -, hw, hp⟩ := touch_switch hb hx.1
  rw [hp, hw]
  exact b.lcAccess_even x.1 hx.2

theorem touch_qualifying (hx : Qualifying x) :
    (touch b x).lcPreWrite = true ∧ (touch b x).lcWriteRam = (b.lcWriteRam || b.lcPreWrite) := by
  obtain ⟨hs, hd, ho⟩ := hx
  obtain ⟨-, -, hw, hp⟩ := touch_switch hb hs
  rw [hp, hw, hd]
  exact b.lcAccess_oddRead ho

/-- A switch access that neither qualifies nor disables is a write of an odd switch. -/
theorem touch_oddWrite (hx : OnSwitch x) (hq : ¬ Qualifying x) (hd : ¬ Disabling x) :
    (touch b x).lcPreWrite = false ∧ (touch b x).lcWriteRam = b.lcWriteRam := by
  have ho : x.2.1.toNat % 2 = 1 := by
    have : x.2.1.toNat % 2 ≠ 0 := fun h => hd ⟨hx, h⟩
    omega
  have hw : x.1 = .write := by
    cases h : x.1 with
    | read => exact absurd ⟨hx, h, ho⟩ hq
    | write => rfl
  obtain ⟨-, -, hwr, hp⟩ := touch_switch hb hx
  rw [hp, hwr, hw]
  exact b.lcAccess_oddWrite ho

/-- The counter is 1 after a switch access exactly when that was a qualifying read (R34, R68). -/
theorem touch_switch_lcPreWrite (hx : OnSwitch x) : (touch b x).lcPreWrite = true ↔ Qualifying x := by
  by_cases hq : Qualifying x
  · exact iff_of_true (touch_qualifying hb hq).1 hq
  · refine iff_of_false ?_ hq
    by_cases hd : Disabling x
    · simp [(touch_disabling hb hd).1]
    · simp [(touch_oddWrite hb hx hq hd).1]

end

/-! ### Runs of accesses -/

@[simp] theorem touchAll_params (zs : List Touch) (b : Bus) : (touchAll zs b).params = b.params := by
  induction zs generalizing b with
  | nil => rfl
  | cons z zs ih => exact (ih (touch b z)).trans (touch_params b z)

/-- A run that touches no switch leaves the language card as it is. -/
theorem touchAll_sameCard {zs : List Touch} {b : Bus} (hb : b.params.lcBase = 0xC080)
    (hz : ∀ z ∈ zs, ¬ OnSwitch z) : SameCard b (touchAll zs b) := by
  induction zs generalizing b with
  | nil => exact SameCard.refl b
  | cons z zs ih =>
    rw [List.forall_mem_cons] at hz
    exact (touch_sameCard hb hz.1).trans (ih (by simpa using hb) hz.2)

theorem touchAll_append (xs ys : List Touch) (b : Bus) :
    touchAll (xs ++ ys) b = touchAll ys (touchAll xs b) := List.foldl_append

theorem touchAll_cons (x : Touch) (xs : List Touch) (b : Bus) :
    touchAll (x :: xs) b = touchAll xs (touch b x) := rfl

/-! ### `load` -/

/-- The address of a store's index 0: RAM and ROM are indexed by address, the card's stores from 0 (R38,
R39). -/
def Store.base : Store → Nat
  | .ram | .rom => 0
  | .lc1 | .lc2 => 0xD000
  | .lch => 0xE000

/-- `load` names a cell that exists, and the cell of that very address. -/
theorem loadCell_spec {bank : Option Store} {a : Word} {st : Store} {i : Nat}
    (h : loadCell bank a = some (st, i)) : st.hasIndex i = true ∧ a.toNat = st.base + i := by
  have := a.isLt
  simp only [loadCell] at h
  repeat' split at h
  all_goals cases h
  all_goals
    simp only [Store.hasIndex, Store.base, Bool.and_eq_true, decide_eq_true_eq]
    omega

theorem loadCell_injective {bank : Option Store} {a a' : Word} {c : Store × Nat}
    (h : loadCell bank a = some c) (h' : loadCell bank a' = some c) : a = a' :=
  BitVec.eq_of_toNat_eq ((loadCell_spec h).2.trans (loadCell_spec h').2.symm)

theorem loadCell_eq_some_iff {bank : Option Store} (hram : bank ≠ some .ram) (hrom : bank ≠ some .rom)
    {a : Word} {st : Store} {i : Nat} : loadCell bank a = some (st, i) ↔ LoadCell bank a st i := by
  rcases bank with _ | _ | _ | _ | _ | _
  case some.ram => exact absurd rfl hram
  case some.rom => exact absurd rfl hrom
  all_goals
    simp only [loadCell, LoadCell]
    grind

/-- A field that no store update touches is as before a `load`. -/
theorem loadBytes_field {α : Type} {f : Bus → α}
    (hf : ∀ (b : Bus) (st : Store) (m : Memory), f (b.setStore st m) = f b) (bank : Option Store)
    (a : Word) (data : List Byte) (b : Bus) : f (loadBytes bank a data b) = f b :=
  loadBytes_keeps (P := fun c => f c = f b) bank (fun c _ _ _ _ _ h => (hf c _ _).trans h) data a b rfl

theorem Bus.poke_wf {b : Bus} {st : Store} (h : (b.store st).wf = true) (st' : Store) (i : Nat)
    (v : Byte) : ((b.poke st' i v).store st).wf = true := by
  rw [Bus.poke, Bus.store_setStore]
  split
  · next he => exact Memory.wf_write (he ▸ h) i v
  · exact h

theorem add_ofNat_succ (a : Word) (k : Nat) :
    a + BitVec.ofNat 16 (k + 1) = a + 1 + BitVec.ofNat 16 k := by
  bv_omega

theorem loadBytes_byteAt_other {bank : Option Store} {a : Word} {data : List Byte} {st : Store}
    {i : Nat} (b : Bus)
    (h : ∀ k, k < data.length → loadCell bank (a + BitVec.ofNat 16 k) ≠ some (st, i)) :
    (loadBytes bank a data b).byteAt st i = b.byteAt st i := by
  induction data generalizing a b with
  | nil => rfl
  | cons v data ih =>
    have h0 : loadCell bank a ≠ some (st, i) := by simpa using h 0 (by simp)
    have hrest : ∀ k, k < data.length → loadCell bank (a + 1 + BitVec.ofNat 16 k) ≠ some (st, i) :=
      fun k hk => add_ofNat_succ a k ▸ h (k + 1) (by simpa using hk)
    rw [loadBytes, ih _ hrest]
    split
    · next hc => exact Bus.byteAt_poke_other _ _ fun he => h0 (hc.trans (congrArg some he))
    · rfl

/-- Of at most 65536 bytes no two have the same address, so that each stands where it was put. -/
theorem loadBytes_byteAt_loaded {bank : Option Store} {a : Word} {data : List Byte} {st : Store}
    {i k : Nat} {v : Byte} {b : Bus} (hl : data.length ≤ 65536) (hv : data[k]? = some v)
    (hc : loadCell bank (a + BitVec.ofNat 16 k) = some (st, i)) (hw : (b.store st).wf = true) :
    (loadBytes bank a data b).byteAt st i = v := by
  induction data generalizing a b k with
  | nil => simp at hv
  | cons w data ih =>
    rw [List.length_cons] at hl
    cases k with
    | zero =>
      obtain rfl : w = v := by simpa using hv
      replace hc : loadCell bank a = some (st, i) := by simpa using hc
      have hrest : ∀ j, j < data.length → loadCell bank (a + 1 + BitVec.ofNat 16 j) ≠ some (st, i) := by
        intro j hj he
        have := loadCell_injective hc he
        bv_omega
      rw [loadBytes, loadBytes_byteAt_other _ hrest, hc]
      exact Bus.byteAt_poke_same hw i w
    | succ k =>
      refine ih (by omega) (by simpa using hv) (add_ofNat_succ a k ▸ hc) ?_
      split
      · exact Bus.poke_wf hw _ _ _
      · exact hw

/-! ### The invariant of the bus under the other operations -/

/-- The invariant speaks of the parameters, the two tables and the stores only. -/
theorem Bus.Inv.congr {b c : Bus} (h : b.Inv) (hp : c.params = b.params)
    (hr : c.readHandlers = b.readHandlers) (hw : c.writeHandlers = b.writeHandlers)
    (hs : ∀ st, c.store st = b.store st) : c.Inv :=
  h.keep hp hr hw fun st => Bus.storeOk_of_store (hs st) (h.stores st)

theorem Bus.Inv.poke {b : Bus} (h : b.Inv) {st : Store} {i : Nat} (hi : st.hasIndex i = true)
    (v : Byte) : (b.poke st i v).Inv :=
  h.keep (by simp [Bus.poke]) (by simp [Bus.poke]) (by simp [Bus.poke])
    (Bus.storeOk_poke v hi h.stores)

/-- Whatever accesses a bus is reached by, the invariant is kept. -/
theorem Bus.Inv.reaches {b c : Bus} (h : b.Inv) (hc : b.Reaches c) : c.Inv := by
  induction hc with
  | refl => exact h
  | read a _ ih => exact ih.read a
  | write a v _ ih => exact ih.write a v
  | readZpr z _ ih =>
    rw [readZpr_bus]
    exact ih.congr rfl rfl rfl fun st => by cases st <;> rfl

theorem Bus.Inv.loadBytes {b : Bus} (h : b.Inv) (bank : Option Store) (a : Word) (data : List Byte) :
    (loadBytes bank a data b).Inv :=
  loadBytes_keeps bank (fun _ _ _ v _ hc hb => hb.poke (loadCell_spec hc).1 v) data a b h

theorem Bus.handlersOk.addOnce {b : Bus} {l : List Byte} (h : b.handlersOk l) {e : Byte}
    (he : b.isCardEntry e = false) : b.handlersOk (addOnce e l) :=
  ⟨nodup_addOnce e h.1, fun _ hx => (mem_addOnce.1 hx).elim (h.2 _) fun hxe => hxe ▸ he⟩

theorem Bus.handlersOk.takeOut {b : Bus} {l : List Byte} (h : b.handlersOk l) (e : Byte) :
    b.handlersOk (takeOut e l) :=
  ⟨nodup_takeOut e h.1, fun x hx => h.2 x (mem_takeOut.1 hx).1⟩

theorem Bus.Inv.setReadHandlers {b : Bus} (h : b.Inv) {l : List Byte} (hl : b.handlersOk l) :
    ({ b with readHandlers := l } : Bus).Inv :=
  ⟨h.params, fun st => Bus.storeOk_of_store (by cases st <;> rfl) (h.stores st), hl, h.writeHandlers⟩

theorem Bus.Inv.setWriteHandlers {b : Bus} (h : b.Inv) {l : List Byte} (hl : b.handlersOk l) :
    ({ b with writeHandlers := l } : Bus).Inv :=
  ⟨h.params, fun st => Bus.storeOk_of_store (by cases st <;> rfl) (h.stores st), h.readHandlers, hl⟩

/-- Clearing the outputs of the step touches the access list and the handler calls only. -/
theorem Bus.Inv.clearOutputs {s : State} (h : s.bus.Inv) : (clearOutputs s).bus.Inv :=
  h.congr rfl rfl rfl fun st => by cases st <;> rfl

/-! ### The host's moves keep the invariant -/

theorem Bus.Inv.resetSequence {s : State} (h : s.bus.Inv) : (resetSequence s).bus.Inv := by
  refine Bus.Inv.read (Bus.Inv.read ?_ _) _
  exact h.congr rfl rfl rfl fun st => by cases st <;> rfl

theorem State.Inv.resetSequence {s : State} (h : s.Inv) : (resetSequence s).Inv :=
  ⟨h.params, h.bus.resetSequence, h.breakpoints, h.stopped⟩

theorem State.Inv.setBus {s : State} (h : s.Inv) {b : Bus} (hb : b.Inv) :
    ({ s with bus := b } : State).Inv :=
  ⟨h.params, hb, h.breakpoints, h.stopped⟩

theorem State.Inv.setBreakpoints {s : State} (h : s.Inv) {l : List Breakpoint} (hl : l.Nodup) :
    ({ s with breakpoints := l } : State).Inv :=
  ⟨h.params, h.bus, hl, h.stopped⟩

/-- Of a Running core the invariant asks nothing about the requests. -/
theorem State.Inv.of_running {s : State} (hp : coreParamsOk s.params) (hb : s.bus.Inv)
    (hbp : s.breakpoints.Nodup) (hr : s.run = .running) : s.Inv :=
  ⟨hp, hb, hbp, fun hs => absurd (hr.symm.trans hs) (by decide)⟩

theorem State.Inv.hostMove {s : State} (h : s.Inv) (c : HostCommand) : (hostMove c s).Inv := by
  cases c with
  | run | step =>
    simp only [Machine.hostMove]
    split
    · exact .of_running h.params h.bus h.breakpoints rfl
    · exact h
  | pause =>
    simp only [Machine.hostMove]
    split
    · exact h
    · next hr => exact .of_running h.params h.bus h.breakpoints hr
  | reset =>
    simp only [Machine.hostMove]
    split
    · exact h.resetSequence
    · next hr => exact .of_running h.params h.bus h.breakpoints hr
  | load bank a data => exact h.setBus (h.bus.loadBytes bank a data)
  | writeReg r v => cases r <;> exact ⟨h.params, h.bus, h.breakpoints, h.stopped⟩
  | writeFlag f v => cases f <;> exact ⟨h.params, h.bus, h.breakpoints, h.stopped⟩
  | writePc | setBrkHalt => exact ⟨h.params, h.bus, h.breakpoints, h.stopped⟩
  | registerRead e =>
    simp only [Machine.hostMove]
    split
    · exact h
    · next he =>
      exact h.setBus (h.bus.setReadHandlers (h.bus.readHandlers.addOnce (Bool.eq_false_iff.2 he)))
  | registerWrite e =>
    simp only [Machine.hostMove]
    split
    · exact h
    · next he =>
      exact h.setBus (h.bus.setWriteHandlers (h.bus.writeHandlers.addOnce (Bool.eq_false_iff.2 he)))
  | removeRead e => exact h.setBus (h.bus.setReadHandlers (h.bus.readHandlers.takeOut e))
  | removeWrite e => exact h.setBus (h.bus.setWriteHandlers (h.bus.writeHandlers.takeOut e))
  | addBreakpoint b => exact h.setBreakpoints (nodup_addOnce b h.breakpoints)
  | removeBreakpoint b => exact h.setBreakpoints (nodup_takeOut b h.breakpoints)
  | clearBreakpoints => exact h.setBreakpoints List.nodup_nil

theorem State.Inv.hostMoves {s : State} (h : s.Inv) (cs : List HostCommand) :
    (hostMoves cs s).Inv := by
  induction cs generalizing s with
  | nil => exact h
  | cons c cs ih => exact ih (h.hostMove c)

theorem State.Inv.clearOutputs {s : State} (h : s.Inv) : (clearOutputs s).Inv :=
  ⟨h.params, h.bus.clearOutputs, h.breakpoints, h.stopped⟩

theorem State.Inv.openBoundary {s : State} (h : s.Inv) (e : Boundary) : (openBoundary e s).Inv :=
  have hm := h.clearOutputs.hostMoves e.commands
  ⟨hm.params, hm.bus, hm.breakpoints, hm.stopped⟩

/-! ### The core's step keeps the invariant -/

/-- What holds between the lines of R401 and the close of the boundary: the invariant but for a Stopped core's
requests, which `closeBoundary` withdraws, and no reset request, which it does not. -/
structure State.MidStep (s : State) : Prop where
  params : coreParamsOk s.params
  bus : s.bus.Inv
  breakpoints : s.breakpoints.Nodup
  resetRequest : s.resetRequest = false

theorem State.MidStep.closeBoundary {s : State} (h : s.MidStep) : (closeBoundary s).Inv := by
  cases hr : s.run with
  | stopped =>
    rw [closeBoundary_stopped hr]
    exact ⟨h.params, h.bus, h.breakpoints, fun _ => ⟨h.resetRequest, rfl, rfl, rfl⟩⟩
  | running =>
    cases hs : s.singleStep with
    | false =>
      rw [closeBoundary_running hr hs]
      exact .of_running h.params h.bus h.breakpoints hr
    | true =>
      rw [closeBoundary_singleStep hr hs]
      exact ⟨h.params, h.bus, h.breakpoints, fun _ => ⟨h.resetRequest, rfl, rfl, rfl⟩⟩

theorem State.MidStep.resetSequence {s : State} (h : s.MidStep) : (resetSequence s).MidStep :=
  ⟨h.params, h.bus.resetSequence, h.breakpoints, h.resetRequest⟩

theorem State.MidStep.clearOutputs {s : State} (h : s.MidStep) : (clearOutputs s).MidStep :=
  ⟨h.params, h.bus.clearOutputs, h.breakpoints, h.resetRequest⟩

theorem State.MidStep.halt {s : State} (h : s.MidStep) (r : StopReason) : (halt r s).MidStep :=
  ⟨h.params, h.bus, h.breakpoints, h.resetRequest⟩

/-- The invariant outlasts whatever writes none of the other three fields and reaches its bus by accesses. -/
theorem State.MidStep.does {fields : List Field} {s t : State} (h : s.MidStep) (d : Does fields s t)
    (hf : ∀ f ∈ [Field.params, .breakpoints, .resetRequest], f ∉ fields) : t.MidStep := by
  obtain ⟨hu, hbus⟩ := d
  have hp : t.params = s.params := hu .params (hf _ (by decide))
  have hb : t.breakpoints = s.breakpoints := hu .breakpoints (hf _ (by decide))
  have hr : t.resetRequest = s.resetRequest := hu .resetRequest (hf _ (by decide))
  exact ⟨hp ▸ h.params, h.bus.reaches hbus, hb ▸ h.breakpoints, hr.trans h.resetRequest⟩

theorem State.MidStep.interruptEntry {s : State} (h : s.MidStep) (vec : Word) :
    (interruptEntry vec s).MidStep :=
  have he := h.clearOutputs.does (enterInterrupt_does s.pc false vec _) (by decide)
  ⟨he.params, he.bus, he.breakpoints, he.resetRequest⟩

theorem State.MidStep.fetch8 {s : State} (h : s.MidStep) : (fetch8 s).2.MidStep :=
  ⟨h.params, h.bus.read s.pc, h.breakpoints, h.resetRequest⟩

theorem State.MidStep.fetchInstr {s : State} (h : s.MidStep) : (fetchInstr s).2.MidStep := by
  simp only [Machine.fetchInstr]
  split
  · exact h.fetch8
  · exact h.fetch8.fetch8
  · exact h.fetch8.fetch8.fetch8

/-- A field that no mnemonic writes is not among what an instruction may write. -/
theorem not_mem_writes {f : Field} (hf : f ∉ commonWrites) (hw : writers f = []) (m : Mnemonic) :
    f ∉ writes m := fun h => by
  have hm := mem_writers_of_mem_extraWrites m f ((List.mem_append.1 h).resolve_left hf)
  simp [hw] at hm

theorem State.MidStep.exec {i : Instr} {s t : State} (h : s.MidStep) (ht : exec i s = .next t) :
    t.MidStep := by
  obtain ⟨u, hu, hd⟩ := exec_does i s
  cases ht.symm.trans hu
  have unwritten : ∀ f ∈ [Field.params, .breakpoints, .resetRequest],
      f ∉ commonWrites ∧ writers f = [] := by decide
  exact h.does hd fun f hf => not_mem_writes (unwritten f hf).1 (unwritten f hf).2 _

theorem State.MidStep.finishInstruction {s : State} (h : s.MidStep) : (finishInstruction s).MidStep := by
  have tick : ({ s with tick := some s.cycles } : State).MidStep :=
    ⟨h.params, h.bus, h.breakpoints, h.resetRequest⟩
  simp only [Machine.finishInstruction]
  split
  · exact h
  · split
    · exact tick.halt _
    · exact tick

theorem Result.map_eq_next {f : State → State} {r : Result} {t : State} :
    r.map f = .next t ↔ ∃ u, r = .next u ∧ f u = t := by
  cases r <;> simp [Result.map]

/-- An instruction step that completes ran the meaning of some instruction on the fetched state. -/
theorem exec_of_executeInstruction {s t : State} (h : executeInstruction s = .next t) :
    ∃ i u, exec i (fetchInstr (clearOutputs s)).2 = .next u ∧ finishInstruction u = t := by
  simp only [executeInstruction] at h
  split at h
  · exact ⟨_, Result.map_eq_next.1 h⟩
  · cases h

theorem State.MidStep.executeInstruction {s t : State} (h : s.MidStep)
    (ht : executeInstruction s = .next t) : t.MidStep := by
  obtain ⟨i, u, hu, rfl⟩ := exec_of_executeInstruction ht
  exact (h.clearOutputs.fetchInstr.exec hu).finishInstruction

theorem State.Inv.coreStep {s t : State} {irq : Bool} (h : s.Inv) (ht : coreStep irq s = .next t) :
    t.Inv := by
  simp only [Machine.coreStep] at ht
  split at ht
  · cases ht
    have taken : ({ Machine.clearOutputs s with resetRequest := false } : State).MidStep :=
      ⟨h.params, h.bus.clearOutputs, h.breakpoints, rfl⟩
    exact taken.resetSequence.closeBoundary
  next hreset =>
  have hs : s.MidStep := ⟨h.params, h.bus, h.breakpoints, Bool.eq_false_iff.2 hreset⟩
  split at ht
  · cases ht
    exact (hs.halt _).closeBoundary
  split at ht
  · cases ht
    have taken : ({ s with nmiPending := false } : State).MidStep :=
      ⟨hs.params, hs.bus, hs.breakpoints, hs.resetRequest⟩
    exact (taken.interruptEntry _).closeBoundary
  split at ht
  · cases ht
    exact (hs.interruptEntry _).closeBoundary
  split at ht
  · cases ht
    exact (hs.halt _).closeBoundary
  · obtain ⟨u, hu, rfl⟩ := Result.map_eq_next.1 ht
    exact (hs.executeInstruction hu).closeBoundary

theorem State.Inv.nextBoundary {s : State} (h : s.Inv) : (nextBoundary s).2.Inv := by
  simp only [Machine.nextBoundary]
  split
  · exact h
  · exact ⟨h.params, h.bus, h.breakpoints, h.stopped⟩

theorem State.Inv.atBoundary {s t : State} (h : s.Inv) (ht : atBoundary s = .next t) : t.Inv := by
  have ho := h.nextBoundary.openBoundary (Machine.nextBoundary s).1
  simp only [Machine.atBoundary] at ht
  split at ht
  · cases ht
  · split at ht
    · cases ht
      exact ho
    · exact ho.coreStep ht

/-- A step that is no fault is the coming boundary. -/
theorem atBoundary_of_step {s t : State} (h : step s = .next t) : atBoundary s = .next t := by
  simp only [step] at h
  split at h
  · cases h
  · exact h

end Sys2Proof.Machine

namespace Sys2Proof.Proofs

open Sys2Proof.Machine Sys2Proof.Claims

/-- Settles O11: the byte is that of the cell `readMap` gives in each region (`Bus.read_val`). -/
theorem readsDecodeByRegion : Obligations.ReadsDecodeByRegion := by
  intro b a
  refine ⟨fun h => Bus.read_val (b.readMap_ram h), fun h => ?_,
    fun h => Bus.read_val (b.readMap_lowRom h), fun h hr => Bus.read_val (Bus.readMap_highRom h hr),
    fun h hr => ?_, fun h hr => ?_, fun h => ?_⟩
  · rw [b.read_io ((isIo_iff a).2 h)]
    exact ⟨rfl, rfl⟩
  · exact Bus.read_val ((Bus.readMap_card h.1 hr).trans (congrArg some (b.cardCell_bank h.2)))
  · exact Bus.read_val ((Bus.readMap_card (by omega) hr).trans (congrArg some (b.cardCell_lch h)))
  · exact b.read_noted ((isIo_eq_false_iff a).2 (by omega))

/-- Settles O12: where `writeMap` gives a cell the write lands in it alone (`Bus.write_landing`), and where it
gives none the write is noted and dropped. -/
theorem writesDecodeByRegion : Obligations.WritesDecodeByRegion := by
  intro b a v
  have offIo (h : 0xC100 ≤ a.toNat) : isIo a = false := (isIo_eq_false_iff a).2 (by omega)
  refine ⟨fun h => Bus.write_landing v (b.writeMap_ram h), fun h => b.write_io v ((isIo_iff a).2 h),
    fun h => Bus.write_unmapped v (offIo h.1) (b.writeMap_lowRom h),
    fun h hw => Bus.write_unmapped v (offIo (by omega)) (Bus.writeMap_protected h hw),
    fun h hw => ?_, fun h hw => ?_⟩
  · exact Bus.write_landing v ((Bus.writeMap_card h.1 hw).trans (congrArg some (b.cardCell_bank h.2)))
  · exact Bus.write_landing v ((Bus.writeMap_card (by omega) hw).trans (congrArg some (b.cardCell_lch h)))

/-- Settles O13: `LCAccess` bit by bit, the bits of the address being those of `k`. -/
theorem switchAccess : Obligations.SwitchAccess := by
  intro b a k v hb hk ha
  have on (d : Dir) : OnSwitch (d, a, v) := ⟨by simp only [ha]; omega, by simp only [ha]; omega⟩
  have bank (d : Dir) : (touch b (d, a, v)).lcBank2 = true ↔ k < 8 := by
    rw [touch_switch_lcBank2 hb (on d), ha]
    omega
  have source (d : Dir) : (touch b (d, a, v)).lcReadRam = true ↔ k % 4 = 0 ∨ k % 4 = 3 := by
    rw [touch_switch_lcReadRam hb (on d), ha]
    omega
  have parity : a.toNat % 2 = k % 2 := by omega
  refine ⟨bank .read, bank .write, source .read, source .write, fun heven => ?_, fun hodd => ?_⟩
  · have clears (d : Dir) := touch_disabling hb (x := (d, a, v)) ⟨on d, parity.trans heven⟩
    exact ⟨(clears .read).1, (clears .read).2, (clears .write).1, (clears .write).2⟩
  · have hw := touch_oddWrite hb (on .write) (fun hq => nomatch hq.2.1) fun hd =>
      absurd (parity.symm.trans hd.2) (by omega)
    have hr := touch_qualifying hb (x := (.read, a, v)) ⟨on .read, rfl, parity.trans hodd⟩
    exact ⟨hw.1, hw.2, hr.1, by rw [← Bool.or_eq_true, ← hr.2]; rfl⟩

/-- Settles O14: accesses off the switches leave the card as the last switch access left it
(`touchAll_sameCard`), so that a run comes down to its one or two switch accesses. -/
theorem doubleReadEnables : Obligations.DoubleReadEnables := by
  intro b x y mid late hb hmid hlate
  have hx : (touch b x).params.lcBase = 0xC080 := by rw [touch_params, hb]
  have hm : (touchAll (x :: mid) b).params.lcBase = 0xC080 := by rw [touchAll_params, hb]
  have one : SameCard (touch b x) (touchAll (x :: mid) b) := touchAll_sameCard hx hmid
  have two : SameCard (touch (touchAll (x :: mid) b) y) (touchAll (x :: mid ++ y :: late) b) := by
    rw [touchAll_append, touchAll_cons y]
    exact touchAll_sameCard (by rw [touch_params, hm]) hlate
  obtain ⟨-, -, oneWrite, onePre⟩ := one
  obtain ⟨twoBank, twoRead, twoWrite, -⟩ := two
  have second (hy : Qualifying y) : (touchAll (x :: mid ++ y :: late) b).lcWriteRam =
      ((touch b x).lcWriteRam || (touch b x).lcPreWrite) := by
    rw [twoWrite, (touch_qualifying hm hy).2, oneWrite, onePre]
  refine ⟨fun hqx hqy => ⟨?_, ?_, ?_⟩, fun hdx hqy => ?_, fun hdx => ?_, fun hsx => ?_,
    fun hsx hnq hnd => ⟨?_, fun hqy => ?_⟩⟩
  · rw [second hqy, (touch_qualifying hb hqx).1, Bool.or_true]
  · rw [twoBank, touch_switch_lcBank2 hm hqy.1]
  · rw [twoRead, touch_switch_lcReadRam hm hqy.1]
    have := hqy.2.2
    omega
  · rw [second hqy, (touch_disabling hb hdx).1, (touch_disabling hb hdx).2, Bool.or_false]
  · rw [oneWrite, (touch_disabling hb hdx).2]
  · rw [onePre, touch_switch_lcPreWrite hb hsx]
  · rw [oneWrite, (touch_oddWrite hb hsx hnq hnd).2]
  · rw [second hqy, (touch_oddWrite hb hsx hnq hnd).1, (touch_oddWrite hb hsx hnq hnd).2, Bool.or_false]

/-- Settles O16: each clause is a law of one read and one write. -/
theorem accessFrame : Obligations.AccessFrame := by
  intro b x
  refine ⟨touch_sameCard, fun hr => ?_, fun h => touch_offIo b ((isIo_eq_false_iff _).2 h),
    touch_rom b x, touch_readHandlers b x, touch_writeHandlers b x, touch_params b x, ?_⟩
  · obtain ⟨_, a, v⟩ := x
    subst hr
    exact ⟨b.read_sameStores a, b.read_deviceWrites a⟩
  · obtain ⟨_ | _, a, v⟩ := x
    · exact ⟨_, b.read_accesses a⟩
    · exact ⟨_, b.write_accesses a v⟩

/-- Settles O22: a byte stands where it was put because no later one has its address
(`loadBytes_byteAt_loaded`), a cell that no byte names is left alone, and nothing but stores is written. -/
theorem loadInstallsImages : Obligations.LoadInstallsImages := by
  intro b bank a data hram hrom hl
  have keeps {α : Type} {f : Bus → α} (hf : ∀ (b : Bus) (st : Store) (m : Memory),
      f (b.setStore st m) = f b) : f (loadBytes bank a data b) = f b :=
    loadBytes_field hf bank a data b
  refine ⟨fun k v st i hv hc hw => ?_, fun st i h => ?_,
    ⟨keeps Bus.setStore_lcBank2, keeps Bus.setStore_lcReadRam, keeps Bus.setStore_lcWriteRam,
      keeps Bus.setStore_lcPreWrite⟩,
    keeps Bus.setStore_readHandlers, keeps Bus.setStore_writeHandlers,
    keeps Bus.setStore_deviceReads, keeps Bus.setStore_accesses, keeps Bus.setStore_deviceWrites,
    keeps Bus.setStore_params⟩
  · exact loadBytes_byteAt_loaded hl hv ((loadCell_eq_some_iff hram hrom).2 hc) hw
  · exact loadBytes_byteAt_other b fun k hk he => h k hk ((loadCell_eq_some_iff hram hrom).1 he)

/-- Settles O15: `IORead` and `IOWrite` by their three cases, the entry of the dispatch table being the low byte
of the address. -/
theorem ioDispatch : Obligations.IoDispatch := by
  intro b a v hb hio
  have hi : isIo a = true := (isIo_iff a).2 hio
  refine ⟨fun h => ?_, fun h => ?_⟩
  · have hs : b.isSwitch a = true := (Bus.isSwitch_iff hb a).2 h
    exact ⟨if_pos hs, fun _ => if_pos hs, b.read_sameStores a, b.write_dropped v (b.writeMap_io hi)⟩
  · have hs : b.isSwitch a = false := Bool.eq_false_iff.2 fun hs => by
      have := (Bus.isSwitch_iff hb a).1 hs
      omega
    have entry : BitVec.ofNat 8 a.toNat = loByte a := by
      apply BitVec.eq_of_toNat_eq
      simp
    rw [entry]
    exact ⟨fun hh => by simp [Bus.ioRead, hs, hh], fun hh => by simp [Bus.ioRead, hs, hh],
      Bus.write_handled v hi hs, Bus.write_unhandled v hi hs⟩

/-- Settles O59: the host's moves keep the invariant one by one (`State.Inv.hostMove`), and what the core does
at the boundary keeps all of it but the requests of a Stopped core (`State.MidStep`), which the close of the
boundary withdraws. -/
theorem everyStepKeepsInv : Obligations.EveryStepKeepsInv :=
  fun _ _ hs ht => hs.atBoundary (atBoundary_of_step ht)

end Sys2Proof.Proofs
end

section
/-! PROOFS. The statements of 30_encoding.md: the decoder against the encoder. The grid R105 meets the opcode table
R106 in three sweeps over `Instr`, where `dsimp` first puts the opcode byte in place so that the grid can be looked
up; the rest is about operands and lists of bytes. -/

namespace Sys2Proof

open Sys2Proof.Claims

/-! ### An operand and its bytes -/

/-- The operand of the same addressing mode that the operand bytes `b1`, `b2` make (R103). -/
def Operand.withBytes (b1 b2 : Byte) : Operand → Operand
  | .imp => .imp
  | .acc => .acc
  | .imm _ => .imm b1
  | .zp _ => .zp b1
  | .zpx _ => .zpx b1
  | .zpy _ => .zpy b1
  | .abs _ => .abs (w16 b1 b2)
  | .abx _ => .abx (w16 b1 b2)
  | .aby _ => .aby (w16 b1 b2)
  | .ind _ => .ind (w16 b1 b2)
  | .iax _ => .iax (w16 b1 b2)
  | .izx _ => .izx b1
  | .izy _ => .izy b1
  | .izp _ => .izp b1
  | .rel _ => .rel (displacement b1)
  | .zpr _ _ => .zpr b1 (displacement b2)

/-- A well-formed operand is the one its own bytes make; a byte it has not counts as 0. -/
theorem Operand.withBytes_bytes {o : Operand} (h : o.ok = true) :
    o.withBytes (o.bytes.getD 0 0) (o.bytes.getD 1 0) = o := by
  cases o with
  | imp | acc | imm | zp | zpx | zpy | izx | izy | izp => rfl
  | abs a | abx a | aby a | ind a | iax a => simp [withBytes, bytes]
  | rel d => exact congrArg rel (displacement_displacementByte h)
  | zpr z d => exact congrArg (zpr z) (displacement_displacementByte h)

/-- After an opcode byte the bytes of an operand made from two bytes fill its format. -/
theorem Operand.cons_bytes_withBytes (op b1 b2 : Byte) (o : Operand) :
    op :: (o.withBytes b1 b2).bytes = [op, b1, b2].take o.length := by
  cases o <;> simp [withBytes, bytes, length]

theorem Operand.ok_withBytes (b1 b2 : Byte) (o : Operand) : (o.withBytes b1 b2).ok = true := by
  cases o with
  | rel => exact displacementOk_displacement b1
  | zpr => exact displacementOk_displacement b2
  | _ => rfl

@[simp] theorem Operand.length_withBytes (b1 b2 : Byte) (o : Operand) :
    (o.withBytes b1 b2).length = o.length := by cases o <;> rfl

theorem Operand.length_le (o : Operand) : o.length ≤ 3 := by cases o <;> simp [length]

/-- The addressing mode of an operand is the operand that two zero bytes make. -/
theorem Operand.withBytes_zero (o : Operand) : o.withBytes 0 0 = modeOf o := by cases o <;> rfl

/-! ### The grid against the opcode table -/

/-- Where the opcode of `i` stands in the grid, there stands its opcode. -/
theorem opcode_instrOf_opcode (i : Instr) (b1 b2 : Byte) :
    (instrOf i.opcode b1 b2).opcode = i.opcode := by
  cases i <;> (dsimp only [Instr.opcode]; rfl)

/-- Where the opcode of `i` stands in the grid, there stand its mnemonic and its addressing mode, with the operand
assembled from the bytes given (R103). -/
theorem form_instrOf_opcode (i : Instr) (b1 b2 : Byte) :
    (instrOf i.opcode b1 b2).form = (i.mnemonic, i.operand.withBytes b1 b2) := by
  cases i <;> (dsimp only [Instr.opcode]; rfl)

/-- If two bytes make the operand of `i`, the grid makes `i` of its opcode and them. -/
theorem instrOf_opcode_eq_self {i : Instr} {b1 b2 : Byte} (h : i.operand.withBytes b1 b2 = i.operand) :
    instrOf i.opcode b1 b2 = i := by
  cases i <;> (cases h; dsimp only [Instr.opcode]; rfl)

theorem lengthOf_le (op : Byte) : lengthOf op ≤ 3 := Operand.length_le _

theorem lengthOf_opcode (i : Instr) : lengthOf i.opcode = i.length := by
  rw [lengthOf, Instr.length, Instr.operand, form_instrOf_opcode]
  exact Operand.length_withBytes 0 0 i.operand

/-- The opcode byte fixes the mnemonic and the addressing mode (R100). -/
theorem form_instrOf_opcode_zero (i : Instr) :
    (instrOf i.opcode 0 0).form = (i.mnemonic, modeOf i.operand) := by
  rw [form_instrOf_opcode, Operand.withBytes_zero]

/-- Every byte has its row in the grid (R110, R117). -/
theorem exists_opcode_eq (op : Byte) : ∃ i : Instr, i.opcode = op :=
  ⟨instrOf op 0 0, by revert op; decide⟩

theorem opcode_instrOf (op b1 b2 : Byte) : (instrOf op b1 b2).opcode = op := by
  obtain ⟨i, rfl⟩ := exists_opcode_eq op
  exact opcode_instrOf_opcode i b1 b2

/-- The operand the grid gives an opcode byte is made of the bytes given. -/
theorem operand_instrOf (op b1 b2 : Byte) :
    (instrOf op b1 b2).operand = (instrOf op 0 0).operand.withBytes b1 b2 := by
  have h := form_instrOf_opcode (instrOf op 0 0) b1 b2
  rw [opcode_instrOf] at h
  rw [Instr.operand, h]

theorem length_instrOf (op b1 b2 : Byte) : (instrOf op b1 b2).length = lengthOf op := by
  rw [← lengthOf_opcode, opcode_instrOf]

theorem wellFormed_instrOf (op b1 b2 : Byte) : WellFormed (instrOf op b1 b2) := by
  rw [WellFormed, operand_instrOf]
  exact Operand.ok_withBytes b1 b2 _

/-- The instruction made of three bytes is encoded in as many of them as it is long. -/
theorem encode_instrOf (op b1 b2 : Byte) :
    encode (instrOf op b1 b2) = [op, b1, b2].take (lengthOf op) := by
  rw [encode, opcode_instrOf, operand_instrOf]
  exact Operand.cons_bytes_withBytes op b1 b2 _

/-! ### The decoder against the encoder -/

/-- The decoder on an opcode byte, the operand bytes its row wants, and bytes that follow. -/
theorem decode_operandBytes {op : Byte} {bs : List Byte} (h : lengthOf op = bs.length + 1)
    (rest : List Byte) :
    decode (op :: bs ++ rest) = .ok (instrOf op (bs.getD 0 0) (bs.getD 1 0), rest) := by
  match bs with
  | [] => exact decode_length1 h rest
  | [b1] => exact decode_length2 h b1 rest
  | [b1, b2] => exact decode_length3 h b1 b2 rest
  | _ :: _ :: _ :: _ =>
    have := lengthOf_le op
    rw [List.length_cons, List.length_cons, List.length_cons] at h
    omega

theorem decode_encode {i : Instr} (h : WellFormed i) (rest : List Byte) :
    decode (encode i ++ rest) = .ok (i, rest) := by
  have hl : lengthOf i.opcode = i.operand.bytes.length + 1 := by
    rw [lengthOf_opcode, Operand.length_bytes, Instr.length]
  rw [encode, decode_operandBytes hl, instrOf_opcode_eq_self (Operand.withBytes_bytes h)]

/-- From three bytes the decoder takes the instruction they make and leaves what is not of its encoding. -/
theorem decode_three_bytes (op b1 b2 : Byte) (rest : List Byte) :
    decode (op :: b1 :: b2 :: rest) =
      .ok (instrOf op b1 b2, (op :: b1 :: b2 :: rest).drop (lengthOf op)) := by
  calc decode ([op, b1, b2] ++ rest)
      = decode (encode (instrOf op b1 b2) ++ ([op, b1, b2] ++ rest).drop (lengthOf op)) := by
        rw [encode_instrOf, List.drop_append_of_le_length (l₁ := [op, b1, b2]) (lengthOf_le op),
          ← List.append_assoc, List.take_append_drop]
    _ = _ := decode_encode (wellFormed_instrOf op b1 b2) _

end Sys2Proof

namespace Sys2Proof.Proofs

open Sys2Proof.Claims

/-- Settles O1: the grid makes the instruction again of its opcode and its operand bytes (`decode_encode`). -/
theorem decodeOfEncode : Obligations.DecodeOfEncode :=
  fun _ rest h => decode_encode h rest

/-- Settles O2: the instruction is the one the grid makes of the three bytes, and what the grid makes of an opcode
byte and zeros is its mnemonic and mode. -/
theorem everyOpcodeByteDecodes : Obligations.EveryOpcodeByteDecodes := by
  refine ⟨fun op b1 b2 rest => ⟨instrOf op b1 b2, ?_, ?_, wellFormed_instrOf op b1 b2,
    opcode_instrOf op b1 b2⟩, fun i j h => ?_⟩
  · rw [length_instrOf, decode_three_bytes]
  · rw [length_instrOf, encode_instrOf]
    exact (List.take_append_of_le_length (l₁ := [op, b1, b2]) (lengthOf_le op)).symm
  · have hform : (i.mnemonic, modeOf i.operand) = (j.mnemonic, modeOf j.operand) := by
      rw [← form_instrOf_opcode_zero, ← form_instrOf_opcode_zero, h]
    obtain ⟨hm, ho⟩ := Prod.mk.inj hform
    exact ⟨hm, ho, by rw [← lengthOf_opcode, ← lengthOf_opcode, h]⟩

/-- Settles O3: each word is the encoding of the instruction beside it, which O1 decodes. -/
theorem specWordsDecode : Obligations.SpecWordsDecode := by
  have decodes (i : Instr) (h : WellFormed i) : decode (encode i ++ []) = .ok (i, []) := decode_encode h []
  exact ⟨decodes .clc rfl, decodes .aslAcc rfl, decodes (.ldaImm 0x10) rfl, decodes (.ldaZp 0x20) rfl,
    decodes (.ldaZpx 0x20) rfl, decodes (.ldxZpy 0x20) rfl, decodes (.bne 3) rfl,
    decodes (.ldaAbs 0x1234) rfl, decodes (.ldaAbx 0x12FF) rfl, decodes (.ldaAby 0x1234) rfl,
    decodes (.jmpInd 0x1234) rfl, decodes (.ldaIzx 0x20) rfl, decodes (.ldaIzy 0x20) rfl,
    decodes (.ldaIzp 0x20) rfl, decodes (.jmpIax 0x1234) rfl, decodes (.bbr0 0x20 13) rfl⟩

end Sys2Proof.Proofs
end

section
/-! PROOFS. The statements of 40_addressing_modes.md: the modes without a pointer, and the modes through a
zero-page pointer. -/

namespace Sys2Proof.Machine

/-! ### The 16-bit sum of an indexed mode -/

theorem add_index_toNat (base : Word) (i : Byte) :
    (base + i.setWidth 16).toNat = (base.toNat + i.toNat) % 65536 := by
  have := i.isLt
  rw [BitVec.toNat_add, BitVec.toNat_setWidth, Nat.mod_eq_of_lt (a := i.toNat) (by omega)]

theorem crosses_iff (a b : Word) : crosses a b = true ↔ b.toNat / 256 ≠ a.toNat / 256 := by
  rw [crosses, bne_iff_ne, ne_comm, ne_eq, ← BitVec.toNat_inj, hiByte_toNat, hiByte_toNat]

/-- The page-cross bit of an indexed sum is that of the unbounded sum: a wrap leaves the last page (R147). -/
theorem crosses_add_index (base : Word) (i : Byte) :
    crosses base (base + i.setWidth 16) = true ↔
      (base.toNat + i.toNat) / 256 ≠ base.toNat / 256 := by
  have := base.isLt
  have := i.isLt
  rw [crosses_iff, add_index_toNat]
  omega

/-! ### A pointer in page zero -/

/-- A read of page zero at a number modulo 256. -/
theorem Bus.read_zeroPage_mod (b : Bus) {z : Byte} {p : Nat} (h : z.toNat = p % 256) :
    b.read (zeroPage z) = (b.byteAt .ram (p % 256),
      b.note ⟨.read, BitVec.ofNat 16 (p % 256), b.byteAt .ram (p % 256)⟩) := by
  have hz : zeroPage z = BitVec.ofNat 16 (p % 256) := by
    rw [← h, zeroPage, BitVec.ofNat_toNat]
  rw [Bus.read_zeroPage, hz, h]

/-- `ReadZP16` from a number modulo 256: the pointer, and its two reads noted (R9). -/
theorem readZP16_mod {z : Byte} {p : Nat} (h : z.toNat = p % 256) (s : State) :
    readZP16 z s =
      (w16 (s.bus.byteAt .ram (p % 256)) (s.bus.byteAt .ram ((p + 1) % 256)),
        { s with bus := { s.bus with accesses := s.bus.accesses ++
          [⟨.read, BitVec.ofNat 16 (p % 256), s.bus.byteAt .ram (p % 256)⟩,
            ⟨.read, BitVec.ofNat 16 ((p + 1) % 256), s.bus.byteAt .ram ((p + 1) % 256)⟩] } }) := by
  have hnext : (z + 1).toNat = (p + 1) % 256 := by
    rw [BitVec.toNat_add, h]
    exact Nat.mod_add_mod p 256 1
  simp only [readZP16, memRead, Bus.read_zeroPage_mod _ h, Bus.read_zeroPage_mod _ hnext,
    Bus.byteAt, Bus.note_store]
  simp only [Bus.note, List.append_assoc, List.cons_append, List.nil_append]

/-! ### The operand's byte -/

/-- An operand with an effective address delivers the byte read there (R130). -/
theorem operandByte_of_effectiveAddress {o : Operand} {s : State} {p : Word × State}
    (h : effectiveAddress o s = some p) : operandByte o s = some (readAt p) := by
  cases o with
  | imm | acc | imp | ind | iax | rel | zpr => cases h
  | zp | zpx | zpy | abs | abx | aby | izx | izy | izp => exact congrArg (Option.map readAt) h

end Sys2Proof.Machine

namespace Sys2Proof.Proofs

open Sys2Proof.Machine

/-- Settles O10: each mode is one pointer read (`readZP16_mod`), and (z),Y then one indexed sum. -/
theorem pointerModes : Obligations.PointerModes := by
  intro s z pointer bus
  have hz : z.toNat = z.toNat % 256 := (Nat.mod_eq_of_lt z.isLt).symm
  refine ⟨⟨_, w16_toNat _ _, congrArg some (readZP16_mod (BitVec.toNat_add z s.x) s)⟩,
    ⟨_, w16_toNat _ _, congrArg some (readZP16_mod hz s)⟩, ?_⟩
  refine ⟨_, _, ?_, ?_,
    congrArg (fun r : Word × State => some (indexed r.1 r.2.y r.2)) (readZP16_mod hz s)⟩
  · rw [add_index_toNat, w16_toNat]
  · rw [crosses_add_index, w16_toNat]

/-- Settles O9: every mode by its equation, the sums in page zero being sums of bytes, the others the indexed
sum, with its page-cross bit. -/
theorem directModes : Obligations.DirectModes := by
  intro s v z a
  exact ⟨rfl, rfl, ⟨_, rfl, zeroPage_toNat z⟩,
    ⟨_, rfl, (zeroPage_toNat _).trans (BitVec.toNat_add z s.x)⟩,
    ⟨_, rfl, (zeroPage_toNat _).trans (BitVec.toNat_add z s.y)⟩, rfl,
    ⟨_, _, rfl, add_index_toNat a s.x, crosses_add_index a s.x⟩,
    ⟨_, _, rfl, add_index_toNat a s.y, crosses_add_index a s.y⟩,
    fun _ _ _ h => operandByte_of_effectiveAddress h⟩

end Sys2Proof.Proofs
end

section
/-! PROOFS. The statements of 41_load_store.md: the loads and the stores. The shapes in which they are made
(`Row.Encoded`, `Row.Reads`, `Row.Stores`) are met here once for any row: it is enough that the instruction is the
one the row lists, and that its meaning is one operation on what the operand delivers, then the row's charge. -/

namespace Sys2Proof.Claims

open Sys2Proof.Machine

/-! ### A row's encoding -/

/-- The opcode table has at the row's instruction what the row lists. -/
structure Row.Fits (r : Row) : Prop where
  opcode : r.i.opcode = r.opcode
  operand : r.i.operand = r.o
  bytes : r.o.length = r.bytes
  ok : r.o.ok = true

theorem Row.Fits.encoded {r : Row} (h : r.Fits) : r.Encoded := by
  have henc : encode r.i = r.opcode :: r.o.bytes := by rw [encode, h.opcode, h.operand]
  have hok : WellFormed r.i := by rw [WellFormed, h.operand, h.ok]
  refine ⟨henc, ?_, fun rest => ?_⟩
  · rw [length_encode, Instr.length, h.operand, h.bytes]
  · rw [← List.cons_append, ← henc, decode_encode hok]

/-! ### Rows that read their operand -/

/-- The row's instruction is the operation `f` on the byte its operand delivers, then the row's charge and
`more`. -/
structure Row.ReadsBy (r : Row) (more : State → Nat) (f : Byte × State → State) : Prop
    extends r.Fits where
  meaning : ∀ s, ∃ p, operandByte r.o s = some p ∧
    exec r.i s = .next (charge (r.cost (f p) + more (f p)) (f p))

/-- Such a row has the shape `Reads`: the operation's frame carries to the instruction, and so does what the
operation makes of the operand's byte. -/
theorem Row.ReadsBy.reads {r : Row} {more : State → Nat} {f : Byte × State → State}
    {but : List Field} {effect : State → Byte → State → Prop} (h : r.ReadsBy more f)
    (frame : ∀ p, Unchanged but p.2 (f p)) (hbus : .bus ∉ but) (hpenalty : .penalty ∉ but)
    (hmore : ∀ {s t}, Unchanged (.bus :: .penalty :: but) s t → more t = more s)
    (heffect : ∀ {s p}, Unchanged [.bus, .penalty] s p.2 → ∀ n, effect s p.1 (charge n (f p))) :
    r.Reads more but effect := by
  intro s
  obtain ⟨p, hp, he⟩ := h.meaning s
  have hop : Unchanged [.bus, .penalty] s p.2 := operandByte_frame hp
  have hf : Unchanged (.bus :: .penalty :: but) s (f p) :=
    hop.trans (frame p) (by simp) (by simp +contextual)
  have hb : (f p).bus = p.2.bus := frame p .bus hbus
  refine ⟨p.1, p.2, _, hp, he, heffect hop _, hb, frame p .penalty hpenalty, ?_, ?_, ?_⟩
  · exact hb ▸ operandByte_sameStores hp
  · exact congrArg (r.cost (f p) + ·) (hmore hf)
  · exact hf.trans (charge_frame _ _) (by simp +contextual) (by simp)

/-! ### Rows that store a byte -/

/-- A write lands where its address maps to: beside that cell every store is as it was, and still is if the
accesses before the write changed no store. -/
theorem landed_write {before b : Bus} (h : SameStores before b) (ea : Word) (v : Byte) :
    Landed b ea v before (b.write ea v) :=
  ⟨fun st i hc => (Bus.write_sameStoresBut b ea v st i hc).trans (h st i),
    fun _ _ hm hw => Bus.write_lands v hm hw⟩

/-- The row's instruction writes `value` at its effective address, then takes the row's charge. -/
structure Row.StoresBy (r : Row) (value : State → Byte) : Prop extends r.Fits where
  meaning : ∀ s, ∃ p, effectiveAddress r.o s = some p ∧
    exec r.i s = .next (charge (r.cost (writeAt (value p.2) p)) (writeAt (value p.2) p))

/-- Such a row has the shape `Stores`, if the resolver's reads do not change the value. -/
theorem Row.StoresBy.stores {r : Row} {value : State → Byte} (h : r.StoresBy value)
    (hvalue : ∀ {s t}, Unchanged [.bus, .penalty] s t → value t = value s) : r.Stores value := by
  intro s
  obtain ⟨p, hp, he⟩ := h.meaning s
  have hea : Unchanged [.bus, .penalty] s p.2 := effectiveAddress_frame hp
  rw [hvalue hea] at he
  have hw : Unchanged [.bus, .penalty] s (writeAt (value s) p) :=
    hea.trans (memWrite_frame _ _ _) (by simp) (by simp)
  exact ⟨p.1, p.2, _, hp, he, rfl, landed_write (effectiveAddress_sameStores hp) _ _, rfl, rfl,
    hw.trans (charge_frame _ _) (by simp) (by simp)⟩

/-! ### The tables of the loads and stores -/

/-- Bit 7 of a byte in N, and in Z whether it is 0, are the N and Z of that byte (R26, R28). -/
theorem nz_of_flags {v : Byte} {t : State} (hn : t.flagN = v.getLsbD 7) (hz : t.flagZ = (v == 0)) :
    NZ v t := by
  constructor
  · rw [hn, BitVec.getLsbD, Nat.testBit_eq_decide_div_mod_eq, decide_eq_true_eq]
    have := v.isLt
    omega
  · rw [hz, beq_iff_eq, ← BitVec.toNat_inj]
    rfl

section
variable {r : Row} {v z : Byte} {a : Word}

theorem ldaRows_readsBy (h : r ∈ ldaRows v z a) : r.ReadsBy none' loadA := by
  simp only [ldaRows, List.mem_cons, List.not_mem_nil, or_false] at h
  rcases h with rfl | rfl | rfl | rfl | rfl | rfl | rfl | rfl | rfl
  all_goals exact ⟨⟨rfl, rfl, rfl, rfl⟩, fun _ => ⟨_, rfl, rfl⟩⟩

theorem ldxRows_readsBy (h : r ∈ ldxRows v z a) : r.ReadsBy none' loadX := by
  simp only [ldxRows, List.mem_cons, List.not_mem_nil, or_false] at h
  rcases h with rfl | rfl | rfl | rfl | rfl
  all_goals exact ⟨⟨rfl, rfl, rfl, rfl⟩, fun _ => ⟨_, rfl, rfl⟩⟩

theorem ldyRows_readsBy (h : r ∈ ldyRows v z a) : r.ReadsBy none' loadY := by
  simp only [ldyRows, List.mem_cons, List.not_mem_nil, or_false] at h
  rcases h with rfl | rfl | rfl | rfl | rfl
  all_goals exact ⟨⟨rfl, rfl, rfl, rfl⟩, fun _ => ⟨_, rfl, rfl⟩⟩

theorem staRows_storesBy (h : r ∈ staRows z a) : r.StoresBy fun s => s.a := by
  simp only [staRows, List.mem_cons, List.not_mem_nil, or_false] at h
  rcases h with rfl | rfl | rfl | rfl | rfl | rfl | rfl | rfl
  all_goals exact ⟨⟨rfl, rfl, rfl, rfl⟩, fun _ => ⟨_, rfl, rfl⟩⟩

theorem stxRows_storesBy (h : r ∈ stxRows z a) : r.StoresBy fun s => s.x := by
  simp only [stxRows, List.mem_cons, List.not_mem_nil, or_false] at h
  rcases h with rfl | rfl | rfl
  all_goals exact ⟨⟨rfl, rfl, rfl, rfl⟩, fun _ => ⟨_, rfl, rfl⟩⟩

theorem styRows_storesBy (h : r ∈ styRows z a) : r.StoresBy fun s => s.y := by
  simp only [styRows, List.mem_cons, List.not_mem_nil, or_false] at h
  rcases h with rfl | rfl | rfl
  all_goals exact ⟨⟨rfl, rfl, rfl, rfl⟩, fun _ => ⟨_, rfl, rfl⟩⟩

theorem stzRows_storesBy (h : r ∈ stzRows z a) : r.StoresBy fun _ => 0 := by
  simp only [stzRows, List.mem_cons, List.not_mem_nil, or_false] at h
  rcases h with rfl | rfl | rfl | rfl
  all_goals exact ⟨⟨rfl, rfl, rfl, rfl⟩, fun _ => ⟨_, rfl, rfl⟩⟩

end

end Sys2Proof.Claims

namespace Sys2Proof.Proofs

open Sys2Proof.Machine Sys2Proof.Claims

/-- Settles O24: every row of a table is the one load operation on its operand's byte (`Row.ReadsBy.reads`), which
copies the byte and sets N and Z by it. -/
theorem loadsCopyAndSetNZ : Obligations.LoadsCopyAndSetNZ := by
  refine fun v z a => ⟨fun r hr => ?_, fun r hr => ?_, fun r hr => ?_⟩
  · have h := ldaRows_readsBy hr
    exact ⟨h.encoded, h.reads loadA_frame (by decide) (by decide) (fun _ => rfl)
      fun _ _ => ⟨rfl, nz_of_flags rfl rfl⟩⟩
  · have h := ldxRows_readsBy hr
    exact ⟨h.encoded, h.reads loadX_frame (by decide) (by decide) (fun _ => rfl)
      fun _ _ => ⟨rfl, nz_of_flags rfl rfl⟩⟩
  · have h := ldyRows_readsBy hr
    exact ⟨h.encoded, h.reads loadY_frame (by decide) (by decide) (fun _ => rfl)
      fun _ _ => ⟨rfl, nz_of_flags rfl rfl⟩⟩

/-- Settles O25: every row of a table is one write at its effective address (`Row.StoresBy.stores`), of a register
that the resolver leaves alone or of 0. -/
theorem storesWriteOneByte : Obligations.StoresWriteOneByte := by
  refine fun z a => ⟨fun r hr => ?_, fun r hr => ?_, fun r hr => ?_, fun r hr => ?_⟩
  · have h := staRows_storesBy hr
    exact ⟨h.encoded, h.stores fun hs => hs .a (by decide)⟩
  · have h := stxRows_storesBy hr
    exact ⟨h.encoded, h.stores fun hs => hs .x (by decide)⟩
  · have h := styRows_storesBy hr
    exact ⟨h.encoded, h.stores fun hs => hs .y (by decide)⟩
  · have h := stzRows_storesBy hr
    exact ⟨h.encoded, h.stores fun _ => rfl⟩

end Sys2Proof.Proofs
end

section
/-! PROOFS. The statements of 42_adc_sbc.md: binary and decimal addition and subtraction as numbers, then ADC and SBC,
which D sends to one or the other. -/

namespace Sys2Proof.Claims

open Sys2Proof.Machine

/-! ### The sign of a byte -/

theorem getLsbD_seven_iff (v : Byte) : v.getLsbD 7 = true ↔ 128 ≤ v.toNat := by
  have hmsb : v.getLsbD 7 = v.msb := (BitVec.msb_eq_getLsbD_last v).symm
  rw [hmsb, BitVec.msb_eq_decide, decide_eq_true_iff]

/-- SBC adds the complement of its operand (R175). -/
theorem xor_ff_toNat (m : Byte) : (m ^^^ 0xFF).toNat = 255 - m.toNat := by
  have hnot : m ^^^ 0xFF = ~~~m := BitVec.xor_allOnes
  rw [hnot, BitVec.toNat_not]

theorem sext8_xor_ff (m : Byte) : sext8 (m ^^^ 0xFF) = -1 - sext8 m := by
  have := m.isLt
  rw [sext8, sext8, xor_ff_toNat]
  split <;> split <;> omega

/-! ### Binary addition and subtraction -/

theorem addBin_r_toNat (a m : Byte) (c : Bool) :
    (addBin a m c).r.toNat = (a.toNat + m.toNat + c.toNat) % 256 := BitVec.toNat_ofNat _ 8

theorem addBin_c_iff (a m : Byte) (c : Bool) :
    (addBin a m c).c = true ↔ 255 < a.toNat + m.toNat + c.toNat := decide_eq_true_iff

/-- Overflow by signs: the result's differs from the sign of each operand. -/
theorem addBin_v_iff (a m : Byte) (c : Bool) :
    (addBin a m c).v = true ↔ ¬ (128 ≤ a.toNat ↔ 128 ≤ (addBin a m c).r.toNat) ∧
      ¬ (128 ≤ m.toNat ↔ 128 ≤ (addBin a m c).r.toNat) := by
  have hv : (addBin a m c).v = ((a.getLsbD 7 ^^ (addBin a m c).r.getLsbD 7) &&
      (m.getLsbD 7 ^^ (addBin a m c).r.getLsbD 7)) := by
    rw [← BitVec.getLsbD_xor, ← BitVec.getLsbD_xor, ← BitVec.getLsbD_and]
    rfl
  simp only [← getLsbD_seven_iff, hv]
  cases a.getLsbD 7 <;> cases m.getLsbD 7 <;> simp

/-- Overflow by the signed sum. -/
theorem addBin_v_iff_signed (a m : Byte) (c : Bool) :
    (addBin a m c).v = true ↔
      sext8 a + sext8 m + c.toNat < -128 ∨ 127 < sext8 a + sext8 m + c.toNat := by
  have := a.isLt
  have := m.isLt
  have := c.toNat_le
  rw [addBin_v_iff, addBin_r_toNat, sext8, sext8]
  split <;> split <;> omega

/-! ### A configured decimal function -/

/-- The first case listed counts if it is for the operands, and else the cases after it. -/
theorem configured_cons_cases (e : Config.DecCase) (cases : List Config.DecCase)
    (f : Byte → Byte → Bool → Byte × Bool) (a m : Byte) (c : Bool) :
    (e.a = a ∧ e.m = m ∧ e.c = c → configured (e :: cases) f a m c = (e.r, e.cOut)) ∧
      (¬ (e.a = a ∧ e.m = m ∧ e.c = c) →
        configured (e :: cases) f a m c = configured cases f a m c) := by
  rw [configured_cons]
  exact ⟨fun h => if_pos h, fun h => if_neg h⟩

/-- Cases that say at the operands what the default body says change nothing there. -/
theorem configured_eq_default {cases : List Config.DecCase} {f : Byte → Byte → Bool → Byte × Bool}
    {a m : Byte} {c : Bool}
    (h : ∀ e ∈ cases, e.a = a ∧ e.m = m ∧ e.c = c → (e.r, e.cOut) = f a m c) :
    configured cases f a m c = f a m c := by
  induction cases with
  | nil => rfl
  | cons e cases ih =>
    rw [configured_cons]
    split
    · exact h e List.mem_cons_self ‹_›
    · exact ih fun e' he => h e' (List.mem_cons_of_mem _ he)

/-! ### Decimal addition and subtraction -/

theorem isBcd_iff (v : Byte) : isBcd v = true ↔ validBcd v := by
  rw [isBcd, Bool.and_eq_true, decide_eq_true_iff, decide_eq_true_iff, validBcd]

/-- The nibble correction of the default body (R174), with its two intermediate values named. -/
theorem decAdcDefault_steps (a m : Byte) (c : Bool) :
    ∃ lo t : Nat,
      (let l := a.toNat % 16 + m.toNat % 16 + c.toNat;
        (9 < l → lo = l + 6) ∧ (l ≤ 9 → lo = l)) ∧
      (let u := (a.toNat - a.toNat % 16) + (m.toNat - m.toNat % 16) + lo;
        (0xA0 ≤ u → t = u + 0x60) ∧ (u < 0xA0 → t = u)) ∧
      (decAdcDefault a m c).1.toNat = t % 256 ∧
      ((decAdcDefault a m c).2 = true ↔ 0xFF < t) := by
  have high (n : Nat) : n - n % 16 = n / 16 * 16 := by omega
  rw [high, high]
  exact ⟨_, _, ⟨fun h => if_pos h, fun h => if_neg h.not_gt⟩,
    ⟨fun h => if_pos h, fun h => if_neg h.not_ge⟩, BitVec.toNat_ofNat _ 8, decide_eq_true_iff⟩

/-- A sum of digits is a carry and a digit, a difference a borrow (carry -1) and a digit. -/
theorem exists_carry_digit (n : Int) : ∃ (k : Int) (l : Nat), n = 10 * k + l ∧ l ≤ 9 :=
  ⟨n / 10, (n % 10).toNat, by omega, by omega⟩

theorem bcd_of_digits {h l : Nat} (hl : l ≤ 9) : bcd (10 * h + l) = 16 * h + l := by
  rw [bcd]
  omega

/-- On valid BCD the corrected nibbles are the two digits of the decimal sum. -/
theorem decAdcDefault_of_validBcd {a m : Byte} (ha : validBcd a) (hm : validBcd m) (c : Bool) :
    (decAdcDefault a m c).1.toNat = bcd ((dec a + dec m + c.toNat) % 100) ∧
      ((decAdcDefault a m c).2 = true ↔ 100 ≤ dec a + dec m + c.toNat) := by
  obtain ⟨ha0, ha1⟩ := ha
  obtain ⟨hm0, hm1⟩ := hm
  have := c.toNat_le
  obtain ⟨lo, t, hlo, ht, hr, hc⟩ := decAdcDefault_steps a m c
  dsimp only at hlo ht
  obtain ⟨k, l, hl, hl9⟩ := exists_carry_digit (a.toNat % 16 + m.toNat % 16 + c.toNat)
  obtain ⟨j, h, hh, hh9⟩ := exists_carry_digit (a.toNat / 16 + m.toNat / 16 + k)
  have hlo' : (lo : Int) = 16 * k + l := by omega
  have ht' : (t : Int) = 256 * j + 16 * h + l := by omega
  have hsum : ((dec a + dec m + c.toNat : Nat) : Int) = 100 * j + 10 * h + l := by
    rw [dec, dec]
    omega
  have hmod : (dec a + dec m + c.toNat) % 100 = 10 * h + l := by omega
  rw [hr, hc, hmod, bcd_of_digits hl9]
  constructor <;> omega

/-- On valid BCD the two corrections leave the digits of the decimal difference (R177, P3). -/
theorem decSbcDefault_of_validBcd {a m : Byte} (ha : validBcd a) (hm : validBcd m) (c : Bool) :
    ((decSbcDefault a m c).1.toNat : Int) =
        bcd ((((dec a : Int) - dec m - (1 - c.toNat)) % 100).toNat) ∧
      ((decSbcDefault a m c).2 = true ↔ (0 : Int) ≤ (dec a : Int) - dec m - (1 - c.toNat)) := by
  obtain ⟨ha0, ha1⟩ := ha
  obtain ⟨hm0, hm1⟩ := hm
  have := c.toNat_le
  obtain ⟨k, l, hl, hl9⟩ :=
    exists_carry_digit ((a.toNat % 16 : Nat) - (m.toNat % 16 : Nat) - (1 - c.toNat))
  obtain ⟨j, h, hh, hh9⟩ := exists_carry_digit (a.toNat / 16 - m.toNat / 16 + k)
  have hd : (a.toNat : Int) - m.toNat - (1 - c.toNat) = 160 * j + 16 * h + l - 6 * k := by omega
  have hdiff : (dec a : Int) - dec m - (1 - c.toNat) = 100 * j + 10 * h + l := by
    rw [dec, dec]
    omega
  have hmod : (((dec a : Int) - dec m - (1 - c.toNat)) % 100).toNat = 10 * h + l := by omega
  rw [hmod, bcd_of_digits hl9, hdiff]
  simp only [decSbcDefault, BitVec.toNat_ofInt, decide_eq_true_iff, hd, hl]
  constructor
  · split <;> split <;> omega
  · omega

/-- Every configuration the spec allows subtracts valid BCD as the default body does. -/
theorem decSbc_of_validBcd {p : Config.CoreParams} (hp : coreParamsOk p) {a m : Byte}
    (ha : validBcd a) (hm : validBcd m) (c : Bool) :
    decSbc p.decSbc a m c = decSbcDefault a m c := by
  obtain ⟨-, -, hcases⟩ := hp
  refine configured_eq_default fun e he hkey => ?_
  obtain ⟨rfl, rfl, rfl⟩ := hkey
  exact hcases e he ((isBcd_iff _).2 ha) ((isBcd_iff _).2 hm)

/-! ### ADC and SBC by mode -/

/-- D sends the operands to a binary or to a decimal function (R171). -/
def byMode (binary : Byte → Byte → Bool → Sum)
    (decimal : Config.CoreParams → Byte → Byte → Bool → Byte × Bool) (r : Byte × State) : State :=
  if r.2.flagD then takeDecimal (decimal r.2.params r.2.a r.1 r.2.flagC) r.2
  else takeSum (binary r.2.a r.1 r.2.flagC) r.2

/-- What the operation makes of operand byte `m` from `s`: A, C and V by the mode, and a draw for V in decimal
mode (R170, R173, R176). -/
def ByModeEffect (binary : Byte → Byte → Bool → Sum)
    (decimal : Config.CoreParams → Byte → Byte → Bool → Byte × Bool) (s : State) (m : Byte)
    (t : State) : Prop :=
  NZ t.a t ∧
    (s.flagD = false → t.a = (binary s.a m s.flagC).r ∧ t.flagC = (binary s.a m s.flagC).c ∧
      t.flagV = (binary s.a m s.flagC).v ∧ t.draws = s.draws) ∧
    (s.flagD = true → (t.a, t.flagC) = decimal s.params s.a m s.flagC ∧
      t.flagV = Config.decV s.draws ∧ t.draws = s.draws + 1)

theorem adc_eq_byMode : adc = byMode addBin fun p => decAdc p.decAdc := rfl

theorem sbc_eq_byMode : sbc = byMode subBin fun p => decSbc p.decSbc := rfl

section
variable {binary : Byte → Byte → Bool → Sum}
  {decimal : Config.CoreParams → Byte → Byte → Bool → Byte × Bool}

theorem byMode_binary {r : Byte × State} (h : r.2.flagD = false) :
    byMode binary decimal r = takeSum (binary r.2.a r.1 r.2.flagC) r.2 :=
  if_neg (Bool.eq_false_iff.1 h)

theorem byMode_decimal {r : Byte × State} (h : r.2.flagD = true) :
    byMode binary decimal r = takeDecimal (decimal r.2.params r.2.a r.1 r.2.flagC) r.2 :=
  if_pos h

theorem byMode_effect (r : Byte × State) (n : Nat) :
    ByModeEffect binary decimal r.2 r.1 (charge n (byMode binary decimal r)) := by
  cases hd : r.2.flagD with
  | false =>
    rw [byMode_binary hd]
    exact ⟨nz_of_flags rfl rfl, fun _ => ⟨rfl, rfl, rfl, rfl⟩, fun h => (nomatch hd.symm.trans h)⟩
  | true =>
    rw [byMode_decimal hd]
    exact ⟨nz_of_flags rfl rfl, fun h => (nomatch hd.symm.trans h), fun _ => ⟨rfl, rfl, rfl⟩⟩

/-- The resolver's reads leave alone all that the effect is a function of. -/
theorem ByModeEffect.of_reads {s u t : State} {m : Byte} (h : ByModeEffect binary decimal u m t)
    (hu : Unchanged [.bus, .penalty] s u) : ByModeEffect binary decimal s m t := by
  have ha : u.a = s.a := hu .a (by decide)
  have hc : u.flagC = s.flagC := hu .flagC (by decide)
  have hd : u.flagD = s.flagD := hu .flagD (by decide)
  have hp : u.params = s.params := hu .params (by decide)
  have hdraws : u.draws = s.draws := hu .draws (by decide)
  simpa only [ByModeEffect, ha, hc, hd, hp, hdraws] using h

/-- Rows of such an operation read their operand and take one cycle more if D = 1. -/
theorem Row.ReadsBy.reads_byMode {r : Row}
    (h : r.ReadsBy (fun s => s.flagD.toNat) (byMode binary decimal))
    (frame : ∀ p : Byte × State, Unchanged [.a, .flagN, .flagV, .flagZ, .flagC, .draws] p.2
      (byMode binary decimal p)) :
    r.Reads (fun s => s.flagD.toNat) [.a, .flagN, .flagV, .flagZ, .flagC, .draws]
      (ByModeEffect binary decimal) :=
  h.reads frame (by decide) (by decide)
    (fun hs => congrArg Bool.toNat (hs .flagD (by decide)))
    fun hs n => (byMode_effect _ n).of_reads hs

end

section
variable {r : Row} {v z : Byte} {a : Word}

theorem adcRows_readsBy (h : r ∈ adcRows v z a) : r.ReadsBy (fun s => s.flagD.toNat) adc := by
  simp only [adcRows, List.mem_cons, List.not_mem_nil, or_false] at h
  rcases h with rfl | rfl | rfl | rfl | rfl | rfl | rfl | rfl | rfl
  all_goals exact ⟨⟨rfl, rfl, rfl, rfl⟩, fun _ => ⟨_, rfl, rfl⟩⟩

theorem sbcRows_readsBy (h : r ∈ sbcRows v z a) : r.ReadsBy (fun s => s.flagD.toNat) sbc := by
  simp only [sbcRows, List.mem_cons, List.not_mem_nil, or_false] at h
  rcases h with rfl | rfl | rfl | rfl | rfl | rfl | rfl | rfl | rfl
  all_goals exact ⟨⟨rfl, rfl, rfl, rfl⟩, fun _ => ⟨_, rfl, rfl⟩⟩

end

/-- In binary mode the immediate forms are one binary sum each. -/
theorem exec_adcImm_binary {s : State} (h : s.flagD = false) (m : Byte) :
    exec (.adcImm m) s = .next (chargeDecimal 2 (takeSum (addBin s.a m s.flagC) s)) := by
  change Host.Outcome.next (chargeDecimal 2 (adc (m, s))) = _
  rw [adc_eq_byMode, byMode_binary (r := (m, s)) h]

theorem exec_sbcImm_binary {s : State} (h : s.flagD = false) (m : Byte) :
    exec (.sbcImm m) s = .next (chargeDecimal 2 (takeSum (subBin s.a m s.flagC) s)) := by
  change Host.Outcome.next (chargeDecimal 2 (sbc (m, s))) = _
  rw [sbc_eq_byMode, byMode_binary (r := (m, s)) h]

/-- Adding a byte and subtracting it again leaves the two carries, less one. -/
theorem subBin_addBin_r_toNat (a m : Byte) (c d : Bool) :
    (subBin (addBin a m c).r m d).r.toNat = (a.toNat + c.toNat + d.toNat + 255) % 256 := by
  have := m.isLt
  rw [subBin, addBin_r_toNat, addBin_r_toNat, xor_ff_toNat]
  omega

end Sys2Proof.Claims

namespace Sys2Proof.Proofs

open Sys2Proof.Machine Sys2Proof.Claims

/-- Settles O28: V by signs, and the signed sum by the four cases of the operands' signs. -/
theorem binaryAddition : Obligations.BinaryAddition := by
  intro a m c
  refine ⟨addBin_r_toNat a m c, addBin_c_iff a m c, ?_, addBin_v_iff_signed a m c⟩
  rw [addBin_v_iff]
  omega

/-- Settles O29: `SubBin` is `AddBin` of the complement, whose number is 255 - m and whose signed number is
-1 - m. -/
theorem binarySubtraction : Obligations.BinarySubtraction := by
  intro a m c
  have := m.isLt
  obtain ⟨hr, hc, hv, hsigned⟩ := binaryAddition a (m ^^^ 0xFF) c
  rw [xor_ff_toNat] at hr hc hv
  rw [sext8_xor_ff] at hsigned
  refine ⟨?_, hc.trans ?_, hv.trans ?_, hsigned.trans ?_⟩
  · rw [subBin, hr]
    omega
  · omega
  · rw [subBin]
    omega
  · omega

/-- Settles O30: the default body's two corrections, which on valid BCD give the digits of the sum, and one case of
a configuration at a time. -/
theorem decimalAddition : Obligations.DecimalAddition :=
  ⟨fun a m c => ⟨decAdcDefault_steps a m c, fun ha hm => decAdcDefault_of_validBcd ha hm c⟩,
    fun e cases a m c => configured_cons_cases e cases decAdcDefault a m c⟩

/-- Settles O31: on valid BCD an allowed configuration is the default body, which subtracts in decimal. -/
theorem decimalSubtraction : Obligations.DecimalSubtraction := by
  refine ⟨fun p hp => ⟨?_, fun a m c ha hm => ?_⟩,
    fun e cases a m c => configured_cons_cases e cases decSbcDefault a m c⟩
  · rw [decSbc_of_validBcd hp (by unfold validBcd; decide) (by unfold validBcd; decide)]
    decide
  · rw [decSbc_of_validBcd hp ha hm]
    exact decSbcDefault_of_validBcd ha hm c

/-- Settles O26: every row of the table is `adc` on its operand's byte, and `adc` is one sum by the mode. -/
theorem adcAddsByMode : Obligations.AdcAddsByMode := fun _ _ _ _ hr =>
  have h := adcRows_readsBy hr
  ⟨h.encoded, (adc_eq_byMode ▸ h).reads_byMode adc_frame⟩

/-- Settles O27: every row of the table is `sbc` on its operand's byte, and `sbc` is one difference by the mode. -/
theorem sbcSubtractsByMode : Obligations.SbcSubtractsByMode := fun _ _ _ _ hr =>
  have h := sbcRows_readsBy hr
  ⟨h.encoded, (sbc_eq_byMode ▸ h).reads_byMode sbc_frame⟩

/-- Settles O32: A has become a + c_in + c_out - 1 modulo 256, which is a iff exactly one of the carries is 1. -/
theorem adcThenSbc : Obligations.AdcThenSbc := by
  intro s m hd
  have hnum := subBin_addBin_r_toNat s.a m s.flagC (addBin s.a m s.flagC).c
  have hd' : (chargeDecimal 2 (takeSum (addBin s.a m s.flagC) s)).flagD = false := hd
  refine ⟨_, _, exec_adcImm_binary hd m, exec_sbcImm_binary hd' m, hnum, ?_⟩
  have hback (x d : Bool) :
      (s.a.toNat + x.toNat + d.toNat + 255) % 256 = s.a.toNat ↔ x ≠ d := by
    have := s.a.isLt
    cases x <;> cases d <;> simp <;> omega
  rw [← BitVec.toNat_inj, ← hback]
  exact Eq.congr_left hnum

end Sys2Proof.Proofs
end

section
/-! PROOFS. The statements of 43_compare_logic_bit.md: compares, logic, and the bit tests. Each kind of operation is
met once: comparing any register, any bitwise operation on A, Z as the test of A against a byte. The shape of a
read-modify-write of memory (`Row.ModifiesMemory`) is met here once for any row, as the shapes of the loads and
stores are above. -/

namespace Sys2Proof.Claims

open Sys2Proof.Machine

/-! ### Rows that read, modify and write memory -/

/-- The row's instruction is the read-modify-write of `f` at its effective address, then the row's charge. -/
structure Row.ModifiesBy (r : Row) (f : Byte → State → Byte × State) : Prop extends r.Fits where
  meaning : ∀ s, ∃ p, effectiveAddress r.o s = some p ∧
    exec r.i s = .next (charge (r.cost (modifyAt f p)) (modifyAt f p))

/-- Such a row has the shape `ModifiesMemory`: the computation's frame carries to the instruction, and so does what
the computation makes of the byte read, from a state `u` that differs from `s` by the reads alone. -/
theorem Row.ModifiesBy.modifiesMemory {r : Row} {f : Byte → State → Byte × State} {but : List Field}
    {result : State → Byte → Byte → Prop} {effect : State → Byte → Byte → State → Prop}
    (h : r.ModifiesBy f) (frame : ∀ m u, Unchanged but u (f m u).2) (hbus : .bus ∉ but)
    (hpenalty : .penalty ∉ but)
    (hresult : ∀ {s u}, Unchanged [.bus, .penalty] s u → ∀ m, result s m (f m u).1)
    (heffect : ∀ {s u}, Unchanged [.bus, .penalty] s u → ∀ m ea n,
      effect s m (f m u).1 (charge n (memWrite ea (f m u).1 (f m u).2))) :
    r.ModifiesMemory but result effect := by
  intro s
  obtain ⟨⟨ea, s1⟩, hp, he⟩ := h.meaning s
  have hread : Unchanged [.bus, .penalty] s (memRead ea s1).2 :=
    (effectiveAddress_frame hp).trans (memRead_frame _ _) (by simp) (by simp)
  have hsame : SameStores s.bus (s1.bus.read ea).2 :=
    (effectiveAddress_sameStores hp).trans (Bus.read_sameStores _ _)
  have hf := frame (memRead ea s1).1 (memRead ea s1).2
  have hb : (modifyAt f (ea, s1)).bus = (s1.bus.read ea).2.write ea (f (memRead ea s1).1 _).1 :=
    congrArg (Bus.write · ea _) (hf .bus hbus)
  refine ⟨ea, s1, _, _, _, _, hp, rfl, he, hresult hread _, heffect hread _ _ _, hb, ?_,
    hf .penalty hpenalty, rfl, ?_⟩
  · exact hb ▸ landed_write hsame _ _
  · have hu : Unchanged (.bus :: .penalty :: but) s (f (memRead ea s1).1 (memRead ea s1).2).2 :=
      hread.trans hf (by simp) (by simp +contextual)
    have hw : Unchanged (.bus :: .penalty :: but) s (modifyAt f (ea, s1)) :=
      hu.trans (memWrite_frame _ _ _) (fun _ hm => hm) (by simp)
    exact hw.trans (charge_frame _ _) (by simp +contextual) (by simp)

/-! ### Compares -/

/-- What comparing `reg` with `m` leaves in the flags (R183). -/
def Compared (reg m : Byte) (t : State) : Prop :=
  (t.flagC = true ↔ m.toNat ≤ reg.toNat) ∧
    NZ (BitVec.ofNat 8 (reg.toNat + 256 - m.toNat)) t ∧ (t.flagZ = true ↔ reg = m)

/-- The difference modulo 256, as a number that does not go below 0. -/
theorem sub_eq_ofNat (reg m : Byte) : reg - m = BitVec.ofNat 8 (reg.toNat + 256 - m.toNat) := by
  have := m.isLt
  rw [← BitVec.toNat_inj, BitVec.toNat_sub, BitVec.toNat_ofNat]
  omega

theorem compareByte_compared (reg m : Byte) (s : State) (n : Nat) :
    Compared reg m (charge n (compareByte reg m s)) := by
  refine ⟨decide_eq_true_iff, sub_eq_ofNat reg m ▸ nz_of_flags rfl rfl, ?_⟩
  exact beq_iff_eq.trans sub_eq_zero

/-- Rows that compare a register which the operand's reads leave alone. -/
theorem Row.ReadsBy.reads_compare {r : Row} {reg : State → Byte}
    (h : r.ReadsBy none' fun p => compareByte (reg p.2) p.1 p.2)
    (hreg : ∀ {s u}, Unchanged [.bus, .penalty] s u → reg u = reg s) :
    r.Reads none' [.flagN, .flagZ, .flagC] fun s m t => Compared (reg s) m t :=
  h.reads (fun _ => compareByte_frame _ _ _) (by decide) (by decide) (fun _ => rfl)
    fun hu n => hreg hu ▸ compareByte_compared _ _ _ n

/-! ### Logic -/

/-- Rows that put into A an operation on A and the operand's byte which is `bit` at every bit. -/
theorem Row.ReadsBy.reads_logic {r : Row} {op : Byte → Byte → Byte} {bit : Bool → Bool → Bool}
    (h : r.ReadsBy none' fun p => loadA (op p.2.a p.1, p.2))
    (hop : ∀ {a m : Byte} {k : Nat}, (op a m).getLsbD k = bit (a.getLsbD k) (m.getLsbD k)) :
    r.Reads none' [.a, .flagN, .flagZ] fun s m t =>
      (∀ k, k < 8 → t.a.getLsbD k = bit (s.a.getLsbD k) (m.getLsbD k)) ∧ NZ t.a t :=
  h.reads (fun _ => loadA_frame _) (by decide) (by decide) (fun _ => rfl) fun hu _ =>
    have ha := hu .a (by decide)
    ⟨fun _ _ => ha ▸ hop, nz_of_flags rfl rfl⟩

/-! ### Bit tests -/

/-- The Z of BIT, TSB and TRB: no bit is set in both A and the byte. -/
theorem and_beq_zero_iff (a m : Byte) :
    ((a &&& m) == 0) = true ↔ ∀ k, k < 8 → ¬ (a.getLsbD k = true ∧ m.getLsbD k = true) := by
  simp only [beq_iff_eq, BitVec.eq_of_getLsbD_eq_iff, BitVec.getLsbD_and, BitVec.ofNat_eq_ofNat,
    BitVec.getLsbD_zero, ← Bool.and_eq_true, Bool.not_eq_true]

/-- That Z is of A as it was before the reads, which leave A alone. -/
theorem flagZ_iff_of_reads {s u t : State} {m : Byte} (hu : Unchanged [.bus, .penalty] s u)
    (ht : t.flagZ = ((u.a &&& m) == 0)) :
    t.flagZ = true ↔ ∀ k, k < 8 → ¬ (s.a.getLsbD k = true ∧ m.getLsbD k = true) := by
  have ha : u.a = s.a := hu .a (by decide)
  rw [ht, ha, and_beq_zero_iff]

theorem getLsbD_tsbByte (m : Byte) (u : State) (k : Nat) :
    (tsbByte m u).1.getLsbD k = (m.getLsbD k || u.a.getLsbD k) := BitVec.getLsbD_or

theorem getLsbD_trbByte (m : Byte) (u : State) {k : Nat} (hk : k < 8) :
    (trbByte m u).1.getLsbD k = (m.getLsbD k && !u.a.getLsbD k) := by
  have hnot : u.a ^^^ 0xFF = ~~~u.a := BitVec.xor_allOnes
  rw [trbByte, hnot, BitVec.getLsbD_and, BitVec.getLsbD_not, decide_eq_true hk, Bool.true_and]

/-- Rows whose byte written is `bit` of the byte read and A, and whose Z tests A against the byte read. -/
theorem Row.ModifiesBy.modifiesMemory_test {r : Row} {f : Byte → State → Byte × State}
    {bit : Bool → Bool → Bool} (h : r.ModifiesBy f) (frame : ∀ m u, Unchanged [.flagZ] u (f m u).2)
    (hbyte : ∀ m u {k}, k < 8 → (f m u).1.getLsbD k = bit (m.getLsbD k) (u.a.getLsbD k))
    (hz : ∀ m u, (f m u).2.flagZ = ((u.a &&& m) == 0)) :
    r.ModifiesMemory [.flagZ]
      (fun s m w => ∀ k, k < 8 → w.getLsbD k = bit (m.getLsbD k) (s.a.getLsbD k))
      fun s m _ t => t.flagZ = true ↔ ∀ k, k < 8 → ¬ (s.a.getLsbD k = true ∧ m.getLsbD k = true) :=
  h.modifiesMemory frame (by decide) (by decide)
    (fun hu m _ hk => (hbyte m _ hk).trans (congrArg (bit _ <| BitVec.getLsbD · _) (hu .a (by decide))))
    fun hu m _ _ => flagZ_iff_of_reads hu (hz m _)

/-! ### The tables of the compares, the logic and the bit tests -/

section
variable {r : Row} {v z : Byte} {a : Word}

theorem cmpRows_readsBy (h : r ∈ cmpRows v z a) : r.ReadsBy none' cmp := by
  simp only [cmpRows, List.mem_cons, List.not_mem_nil, or_false] at h
  rcases h with rfl | rfl | rfl | rfl | rfl | rfl | rfl | rfl | rfl
  all_goals exact ⟨⟨rfl, rfl, rfl, rfl⟩, fun _ => ⟨_, rfl, rfl⟩⟩

theorem cpxRows_readsBy (h : r ∈ cpxRows v z a) : r.ReadsBy none' cpx := by
  simp only [cpxRows, List.mem_cons, List.not_mem_nil, or_false] at h
  rcases h with rfl | rfl | rfl
  all_goals exact ⟨⟨rfl, rfl, rfl, rfl⟩, fun _ => ⟨_, rfl, rfl⟩⟩

theorem cpyRows_readsBy (h : r ∈ cpyRows v z a) : r.ReadsBy none' cpy := by
  simp only [cpyRows, List.mem_cons, List.not_mem_nil, or_false] at h
  rcases h with rfl | rfl | rfl
  all_goals exact ⟨⟨rfl, rfl, rfl, rfl⟩, fun _ => ⟨_, rfl, rfl⟩⟩

theorem andRows_readsBy (h : r ∈ andRows v z a) : r.ReadsBy none' andA := by
  simp only [andRows, List.mem_cons, List.not_mem_nil, or_false] at h
  rcases h with rfl | rfl | rfl | rfl | rfl | rfl | rfl | rfl | rfl
  all_goals exact ⟨⟨rfl, rfl, rfl, rfl⟩, fun _ => ⟨_, rfl, rfl⟩⟩

theorem oraRows_readsBy (h : r ∈ oraRows v z a) : r.ReadsBy none' oraA := by
  simp only [oraRows, List.mem_cons, List.not_mem_nil, or_false] at h
  rcases h with rfl | rfl | rfl | rfl | rfl | rfl | rfl | rfl | rfl
  all_goals exact ⟨⟨rfl, rfl, rfl, rfl⟩, fun _ => ⟨_, rfl, rfl⟩⟩

theorem eorRows_readsBy (h : r ∈ eorRows v z a) : r.ReadsBy none' eorA := by
  simp only [eorRows, List.mem_cons, List.not_mem_nil, or_false] at h
  rcases h with rfl | rfl | rfl | rfl | rfl | rfl | rfl | rfl | rfl
  all_goals exact ⟨⟨rfl, rfl, rfl, rfl⟩, fun _ => ⟨_, rfl, rfl⟩⟩

theorem bitRows_readsBy (h : r ∈ bitRows z a) : r.ReadsBy none' bitMem := by
  simp only [bitRows, List.mem_cons, List.not_mem_nil, or_false] at h
  rcases h with rfl | rfl | rfl | rfl
  all_goals exact ⟨⟨rfl, rfl, rfl, rfl⟩, fun _ => ⟨_, rfl, rfl⟩⟩

theorem bitImmRows_readsBy (h : r ∈ bitImmRows v) : r.ReadsBy none' bitImm := by
  obtain rfl := List.mem_singleton.1 h
  exact ⟨⟨rfl, rfl, rfl, rfl⟩, fun _ => ⟨_, rfl, rfl⟩⟩

theorem tsbRows_modifiesBy (h : r ∈ tsbRows z a) : r.ModifiesBy tsbByte := by
  simp only [tsbRows, List.mem_cons, List.not_mem_nil, or_false] at h
  rcases h with rfl | rfl
  all_goals exact ⟨⟨rfl, rfl, rfl, rfl⟩, fun _ => ⟨_, rfl, rfl⟩⟩

theorem trbRows_modifiesBy (h : r ∈ trbRows z a) : r.ModifiesBy trbByte := by
  simp only [trbRows, List.mem_cons, List.not_mem_nil, or_false] at h
  rcases h with rfl | rfl
  all_goals exact ⟨⟨rfl, rfl, rfl, rfl⟩, fun _ => ⟨_, rfl, rfl⟩⟩

end

end Sys2Proof.Claims

namespace Sys2Proof.Proofs

open Sys2Proof.Machine Sys2Proof.Claims

/-- Settles O33: every row of a table is the one comparison (`compareByte_compared`) of a register that the
operand's reads leave alone. -/
theorem comparesSetFlags : Obligations.ComparesSetFlags := by
  refine fun v z a => ⟨fun r hr => ?_, fun r hr => ?_, fun r hr => ?_⟩
  · have h := cmpRows_readsBy hr
    exact ⟨h.encoded, h.reads_compare fun hu => hu .a (by decide)⟩
  · have h := cpxRows_readsBy hr
    exact ⟨h.encoded, h.reads_compare fun hu => hu .x (by decide)⟩
  · have h := cpyRows_readsBy hr
    exact ⟨h.encoded, h.reads_compare fun hu => hu .y (by decide)⟩

/-- Settles O34: every row of a table puts into A an operation that is one bit's at every bit
(`Row.ReadsBy.reads_logic`). -/
theorem logicIsBitwise : Obligations.LogicIsBitwise := by
  refine fun v z a => ⟨fun r hr => ?_, fun r hr => ?_, fun r hr => ?_⟩
  · have h := andRows_readsBy hr
    exact ⟨h.encoded, h.reads_logic BitVec.getLsbD_and⟩
  · have h := oraRows_readsBy hr
    exact ⟨h.encoded, h.reads_logic BitVec.getLsbD_or⟩
  · have h := eorRows_readsBy hr
    exact ⟨h.encoded, h.reads_logic BitVec.getLsbD_xor⟩

/-- Settles O35: Z is the test of A against the operand's byte (`flagZ_iff_of_reads`), N and V are bits 7 and 6 of that
byte as numbers (`toNat_getLsbD`). -/
theorem bitTests : Obligations.BitTests := by
  refine fun v z a => ⟨fun r hr => ?_, fun r hr => ?_⟩
  · have h := bitRows_readsBy hr
    refine ⟨h.encoded, h.reads (fun p => (bitMem_frame p).mono (by simp)) (by decide) (by decide)
      (fun _ => rfl) fun {s p} hu _ => ⟨flagZ_iff_of_reads hu rfl, ?_, toNat_getLsbD p.1 6⟩⟩
    exact (toNat_getLsbD p.1 7).trans (by have := p.1.isLt; omega)
  · have h := bitImmRows_readsBy hr
    exact ⟨h.encoded, h.reads bitImm_frame (by decide) (by decide) (fun _ => rfl)
      fun hu _ => flagZ_iff_of_reads hu rfl⟩

/-- Settles O36: every row of a table is one read-modify-write (`Row.ModifiesBy.modifiesMemory`) whose byte and Z are
functions of the byte read and of A. -/
theorem testAndSetOrResetBits : Obligations.TestAndSetOrResetBits := by
  refine fun z a => ⟨fun r hr => ?_, fun r hr => ?_⟩
  · have h := tsbRows_modifiesBy hr
    exact ⟨h.encoded, h.modifiesMemory_test tsbByte_frame
      (fun m u k _ => getLsbD_tsbByte m u k) fun _ _ => rfl⟩
  · have h := trbRows_modifiesBy hr
    exact ⟨h.encoded, h.modifiesMemory_test (bit := fun m a => m && !a) trbByte_frame
      (fun m u _ hk => getLsbD_trbByte m u hk) fun _ _ => rfl⟩

end Sys2Proof.Proofs
end

section
/-! PROOFS. The statements of 44_shift_rotate_incdec.md: shifts, rotates, increments and decrements. What each makes of
a byte is said as a number; the shapes of an instruction that works on memory or on A by its mode (`Row.Modifies`)
and of one that works on registers and flags alone (`Row.Simple`) are met here once for any row. -/

namespace Sys2Proof.Claims

open Sys2Proof.Machine

/-! ### The bytes as numbers -/

theorem toNat_add_one (m : Byte) : (m + 1).toNat = (m.toNat + 1) % 256 := BitVec.toNat_add m 1

theorem toNat_sub_one (m : Byte) : (m - 1).toNat = (m.toNat + 255) % 256 := by
  rw [BitVec.toNat_sub, Nat.add_comm]
  rfl

theorem getLsbD_zero_iff (m : Byte) : m.getLsbD 0 = true ↔ m.toNat % 2 = 1 := by
  rw [BitVec.getLsbD, Nat.testBit_zero, decide_eq_true_iff]

theorem toNat_shiftLeft_one (m : Byte) : (m <<< 1).toNat = 2 * m.toNat % 256 := by
  rw [BitVec.toNat_shiftLeft, Nat.shiftLeft_eq, Nat.mul_comm]

theorem toNat_shiftRight_one (m : Byte) : (m >>> 1).toNat = m.toNat / 2 := by
  rw [BitVec.toNat_ushiftRight, Nat.shiftRight_eq_div_pow]

/-- C as the byte that a rotate brings in. -/
theorem toNat_carryByte (c : Bool) : ((BitVec.ofBool c).setWidth 8).toNat = c.toNat := by
  cases c <;> rfl

/-- ROL: C stands below the bits of `m <<< 1`, so that the two are added. -/
theorem rolByte_toNat (m : Byte) (s : State) :
    (rolByte m s).1.toNat = (2 * m.toNat + s.flagC.toNat) % 256 := by
  have hc : s.flagC.toNat < 2 ^ 1 := s.flagC.toNat_lt
  have hc8 : s.flagC.toNat % 2 ^ 8 = s.flagC.toNat := Nat.mod_eq_of_lt (by omega)
  calc (rolByte m s).1.toNat
      = m.toNat <<< 1 % 2 ^ 8 ||| s.flagC.toNat := by
        rw [rolByte, BitVec.toNat_or, BitVec.toNat_shiftLeft, toNat_carryByte]
    _ = (m.toNat <<< 1 ||| s.flagC.toNat) % 2 ^ 8 := by rw [Nat.or_mod_two_pow, hc8]
    _ = (2 * m.toNat + s.flagC.toNat) % 256 := by
        rw [← Nat.shiftLeft_add_eq_or_of_lt hc, Nat.shiftLeft_eq]
        omega

/-- ROR: C stands above the bits of `m >>> 1`. -/
theorem rorByte_toNat (m : Byte) (s : State) :
    (rorByte m s).1.toNat = m.toNat / 2 + 128 * s.flagC.toNat := by
  have hm : m.toNat / 2 < 2 ^ 7 := by have := m.isLt; omega
  have hc : s.flagC.toNat <<< 7 < 2 ^ 8 := by cases s.flagC <;> decide
  rw [rorByte, BitVec.toNat_or, toNat_shiftRight_one, BitVec.toNat_shiftLeft, toNat_carryByte,
    Nat.mod_eq_of_lt hc, Nat.or_comm, ← Nat.shiftLeft_add_eq_or_of_lt hm, Nat.shiftLeft_eq]
  omega

/-! ### Rows that modify memory or A, by their mode -/

/-- The row's instruction is `f` on A in the accumulator mode, and in any other the read-modify-write of `f` at its
effective address. -/
inductive Row.ModifiesByMode (r : Row) (f : Byte → State → Byte × State) : Prop
  | accumulator (fits : r.Fits) (mode : r.o = .acc)
      (meaning : ∀ s, exec r.i s = .next (charge (r.cost (modifyA f s)) (modifyA f s)))
  | memory (mode : r.o ≠ .acc) (modifiesBy : r.ModifiesBy f)

theorem Row.ModifiesByMode.encoded {r : Row} {f : Byte → State → Byte × State}
    (h : r.ModifiesByMode f) : r.Encoded := by
  cases h with
  | accumulator fits => exact fits.encoded
  | memory _ modifiesBy => exact modifiesBy.encoded

theorem setA_frame (v : Byte) (s : State) : Unchanged [.a] s { s with a := v } := fun f hf => by
  cases f
  case a => exact (hf (by decide)).elim
  all_goals rfl

/-- Such a row has the shape `Modifies`, if what `f` does to the flags is still there after A or memory and the
cycles are written. -/
theorem Row.ModifiesByMode.modifies {r : Row} {f : Byte → State → Byte × State} {but : List Field}
    {result : State → Byte → Byte → Prop} {effect : Byte → Byte → State → Prop}
    (h : r.ModifiesByMode f) (frame : ∀ m u, Unchanged but u (f m u).2) (hbus : .bus ∉ but)
    (hpenalty : .penalty ∉ but)
    (hresult : ∀ {s u}, Unchanged [.bus, .penalty] s u → ∀ m, result s m (f m u).1)
    (heffect : ∀ m u {t}, Unchanged [.a, .bus, .cycles] (f m u).2 t → effect m (f m u).1 t) :
    r.Modifies but result fun _ m w t => effect m w t := by
  cases h with
  | accumulator _ mode meaning =>
    refine ⟨fun _ s => ?_, fun hmode => absurd mode hmode⟩
    have hset (n : Nat) : Unchanged [.a, .cycles] (f s.a s).2 (charge n (modifyA f s)) :=
      (setA_frame _ _).trans (charge_frame _ _) (by simp) (by simp)
    exact ⟨_, meaning s, hresult (Unchanged.refl _ _) _,
      heffect _ _ ((hset _).mono (by simp)), rfl,
      (frame _ _).trans (hset _) (by simp +contextual) (by simp)⟩
  | memory mode modifiesBy =>
    refine ⟨fun hmode => absurd hmode mode, fun _ => ?_⟩
    exact modifiesBy.modifiesMemory frame hbus hpenalty hresult fun _ m _ _ =>
      heffect m _ ((memWrite_frame _ _ _).trans (charge_frame _ _) (by simp) (by simp))

theorem NZ.of_unchanged {v : Byte} {s t : State} (h : NZ v s)
    (hst : Unchanged [.a, .bus, .cycles] s t) : NZ v t := by
  have hn : t.flagN = s.flagN := hst .flagN (by decide)
  have hz : t.flagZ = s.flagZ := hst .flagZ (by decide)
  rwa [NZ, hn, hz]

/-- Rows of an operation whose C is the bit of the byte read that `out` tells, and whose N and Z are the result's. -/
theorem Row.ModifiesByMode.modifies_shift {r : Row} {f : Byte → State → Byte × State}
    {result : State → Byte → Byte → Prop} {out : Byte → Prop} (h : r.ModifiesByMode f)
    (frame : ∀ m u, Unchanged [.flagN, .flagZ, .flagC] u (f m u).2)
    (hresult : ∀ {s u}, Unchanged [.bus, .penalty] s u → ∀ m, result s m (f m u).1)
    (hc : ∀ m u, (f m u).2.flagC = true ↔ out m) (hnz : ∀ m u, NZ (f m u).1 (f m u).2) :
    r.Modifies [.flagN, .flagZ, .flagC] result
      fun _ m w t => (t.flagC = true ↔ out m) ∧ NZ w t :=
  h.modifies (effect := fun m w t => (t.flagC = true ↔ out m) ∧ NZ w t) frame (by decide)
    (by decide) hresult fun m u t ht =>
      have hflagC : t.flagC = (f m u).2.flagC := ht .flagC (by decide)
      ⟨hflagC ▸ hc m u, (hnz m u).of_unchanged ht⟩

/-- The C that a rotate brings in is the C before the operand's reads. -/
theorem flagC_of_reads {s u : State} (h : Unchanged [.bus, .penalty] s u) : u.flagC = s.flagC :=
  h .flagC (by decide)

/-! ### Rows that work on registers and flags alone -/

/-- The row's instruction is the operation `f` on the state, then the row's cycles. -/
structure Row.RunsBy (r : Row) (f : State → State) : Prop extends r.Fits where
  meaning : ∀ s, exec r.i s = .next (charge r.cycles (f s))

/-- Such a row has the shape `Simple`. -/
theorem Row.RunsBy.simple {r : Row} {f : State → State} {but : List Field}
    {effect : State → State → Prop} (h : r.RunsBy f) (frame : ∀ s, Unchanged but s (f s))
    (heffect : ∀ s n, effect s (charge n (f s))) : r.Simple but effect := fun s =>
  ⟨_, h.meaning s, heffect s _, rfl,
    (frame s).trans (charge_frame _ _) (by simp +contextual) (by simp)⟩

/-! ### The tables of the shifts, rotates, increments and decrements -/

section
variable {r : Row} {z : Byte} {a : Word}

theorem aslRows_modifiesByMode (h : r ∈ aslRows z a) : r.ModifiesByMode aslByte := by
  simp only [aslRows, List.mem_cons, List.not_mem_nil, or_false] at h
  rcases h with rfl | rfl | rfl | rfl | rfl
  case inr.inl => exact .accumulator ⟨rfl, rfl, rfl, rfl⟩ rfl fun _ => rfl
  all_goals exact .memory nofun ⟨⟨rfl, rfl, rfl, rfl⟩, fun _ => ⟨_, rfl, rfl⟩⟩

theorem lsrRows_modifiesByMode (h : r ∈ lsrRows z a) : r.ModifiesByMode lsrByte := by
  simp only [lsrRows, List.mem_cons, List.not_mem_nil, or_false] at h
  rcases h with rfl | rfl | rfl | rfl | rfl
  case inr.inl => exact .accumulator ⟨rfl, rfl, rfl, rfl⟩ rfl fun _ => rfl
  all_goals exact .memory nofun ⟨⟨rfl, rfl, rfl, rfl⟩, fun _ => ⟨_, rfl, rfl⟩⟩

theorem rolRows_modifiesByMode (h : r ∈ rolRows z a) : r.ModifiesByMode rolByte := by
  simp only [rolRows, List.mem_cons, List.not_mem_nil, or_false] at h
  rcases h with rfl | rfl | rfl | rfl | rfl
  case inr.inl => exact .accumulator ⟨rfl, rfl, rfl, rfl⟩ rfl fun _ => rfl
  all_goals exact .memory nofun ⟨⟨rfl, rfl, rfl, rfl⟩, fun _ => ⟨_, rfl, rfl⟩⟩

theorem rorRows_modifiesByMode (h : r ∈ rorRows z a) : r.ModifiesByMode rorByte := by
  simp only [rorRows, List.mem_cons, List.not_mem_nil, or_false] at h
  rcases h with rfl | rfl | rfl | rfl | rfl
  case inr.inl => exact .accumulator ⟨rfl, rfl, rfl, rfl⟩ rfl fun _ => rfl
  all_goals exact .memory nofun ⟨⟨rfl, rfl, rfl, rfl⟩, fun _ => ⟨_, rfl, rfl⟩⟩

theorem incRows_modifiesByMode (h : r ∈ incRows z a) : r.ModifiesByMode incByte := by
  simp only [incRows, List.mem_cons, List.not_mem_nil, or_false] at h
  rcases h with rfl | rfl | rfl | rfl | rfl
  case inl => exact .accumulator ⟨rfl, rfl, rfl, rfl⟩ rfl fun _ => rfl
  all_goals exact .memory nofun ⟨⟨rfl, rfl, rfl, rfl⟩, fun _ => ⟨_, rfl, rfl⟩⟩

theorem decRows_modifiesByMode (h : r ∈ decRows z a) : r.ModifiesByMode decByte := by
  simp only [decRows, List.mem_cons, List.not_mem_nil, or_false] at h
  rcases h with rfl | rfl | rfl | rfl | rfl
  case inl => exact .accumulator ⟨rfl, rfl, rfl, rfl⟩ rfl fun _ => rfl
  all_goals exact .memory nofun ⟨⟨rfl, rfl, rfl, rfl⟩, fun _ => ⟨_, rfl, rfl⟩⟩

end

theorem stepXRows_runsBy {p : Row × Nat} (h : p ∈ stepXRows) : ∃ v : State → Byte,
    p.1.RunsBy (fun s => stepX (v s) s) ∧ ∀ s, (v s).toNat = (s.x.toNat + p.2) % 256 := by
  simp only [stepXRows, List.mem_cons, List.not_mem_nil, or_false] at h
  rcases h with rfl | rfl
  · exact ⟨fun s => s.x + 1, ⟨⟨rfl, rfl, rfl, rfl⟩, fun _ => rfl⟩, fun s => toNat_add_one s.x⟩
  · exact ⟨fun s => s.x - 1, ⟨⟨rfl, rfl, rfl, rfl⟩, fun _ => rfl⟩, fun s => toNat_sub_one s.x⟩

theorem stepYRows_runsBy {p : Row × Nat} (h : p ∈ stepYRows) : ∃ v : State → Byte,
    p.1.RunsBy (fun s => stepY (v s) s) ∧ ∀ s, (v s).toNat = (s.y.toNat + p.2) % 256 := by
  simp only [stepYRows, List.mem_cons, List.not_mem_nil, or_false] at h
  rcases h with rfl | rfl
  · exact ⟨fun s => s.y + 1, ⟨⟨rfl, rfl, rfl, rfl⟩, fun _ => rfl⟩, fun s => toNat_add_one s.y⟩
  · exact ⟨fun s => s.y - 1, ⟨⟨rfl, rfl, rfl, rfl⟩, fun _ => rfl⟩, fun s => toNat_sub_one s.y⟩

end Sys2Proof.Claims

namespace Sys2Proof.Proofs

open Sys2Proof.Machine Sys2Proof.Claims

/-- Settles O37: every row of a table is one operation on memory or on A (`Row.ModifiesByMode.modifies_shift`). C is bit
7 or bit 0 of the byte read, and the C that a rotate brings in is the C before the reads. -/
theorem shiftsAndRotates : Obligations.ShiftsAndRotates := by
  refine fun z a => ⟨fun r hr => ?_, fun r hr => ?_, fun r hr => ?_, fun r hr => ?_⟩
  · have h := aslRows_modifiesByMode hr
    exact ⟨h.encoded, h.modifies_shift aslByte_frame (fun _ => toNat_shiftLeft_one)
      (fun m _ => getLsbD_seven_iff m) fun _ _ => nz_of_flags rfl rfl⟩
  · have h := lsrRows_modifiesByMode hr
    exact ⟨h.encoded, h.modifies_shift lsrByte_frame (fun _ => toNat_shiftRight_one)
      (fun m _ => getLsbD_zero_iff m) fun _ _ => nz_of_flags rfl rfl⟩
  · have h := rolRows_modifiesByMode hr
    exact ⟨h.encoded, h.modifies_shift rolByte_frame
      (fun hu m => flagC_of_reads hu ▸ rolByte_toNat m _)
      (fun m _ => getLsbD_seven_iff m) fun _ _ => nz_of_flags rfl rfl⟩
  · have h := rorRows_modifiesByMode hr
    exact ⟨h.encoded, h.modifies_shift rorByte_frame
      (fun hu m => flagC_of_reads hu ▸ rorByte_toNat m _)
      (fun m _ => getLsbD_zero_iff m) fun _ _ => nz_of_flags rfl rfl⟩

/-- Settles O38: every row of a table is one operation on memory or on A (`Row.ModifiesByMode.modifies`), which adds 1
or 255 modulo 256 and looks at no flag. -/
theorem incrementsAndDecrements : Obligations.IncrementsAndDecrements := by
  refine fun z a => ⟨fun r hr => ?_, fun r hr => ?_⟩
  · have h := incRows_modifiesByMode hr
    exact ⟨h.encoded, h.modifies (effect := fun _ w t => NZ w t) incByte_frame (by decide)
      (by decide) (fun _ => toNat_add_one) fun _ _ _ ht => (nz_of_flags rfl rfl).of_unchanged ht⟩
  · have h := decRows_modifiesByMode hr
    exact ⟨h.encoded, h.modifies (effect := fun _ w t => NZ w t) decByte_frame (by decide)
      (by decide) (fun _ => toNat_sub_one) fun _ _ _ ht => (nz_of_flags rfl rfl).of_unchanged ht⟩

/-- Settles O39: every row of a table gives the register its value plus 1 or 255 modulo 256, and N and Z by it. -/
theorem indexIncrements : Obligations.IndexIncrements := by
  refine ⟨fun p hp => ?_, fun p hp => ?_⟩
  · obtain ⟨v, h, hv⟩ := stepXRows_runsBy hp
    exact ⟨h.encoded, h.simple (fun s => stepX_frame (v s) s)
      fun s _ => ⟨hv s, nz_of_flags rfl rfl⟩⟩
  · obtain ⟨v, h, hv⟩ := stepYRows_runsBy hp
    exact ⟨h.encoded, h.simple (fun s => stepY_frame (v s) s)
      fun s _ => ⟨hv s, nz_of_flags rfl rfl⟩⟩

end Sys2Proof.Proofs
end

section
/-! PROOFS. The statements of 45_branch_jump.md: the branches, BRA and JMP. Where a branch goes and what it costs is
said once for `branchIf`, and where a jump through a pointer goes once for the two reads of a pointer. -/

namespace Sys2Proof.Claims

open Sys2Proof.Machine

/-! ### Where a branch goes and what it costs -/

theorem targetRel_toNat (d : Int) (s : State) :
    ((targetRel d s).toNat : Int) = ((s.pc.toNat : Int) + d) % 65536 := by
  have hd : ((BitVec.ofInt 16 d).toNat : Int) = d % 65536 := by
    rw [BitVec.toNat_ofInt]
    exact Int.toNat_of_nonneg (Int.emod_nonneg d (by decide))
  rw [targetRel, BitVec.toNat_add]
  omega

/-- The cycle for a target in another page (R220). -/
theorem crosses_toNat (a b : Word) :
    (crosses a b).toNat = if b.toNat / 256 = a.toNat / 256 then 0 else 1 := by
  by_cases h : crosses a b = true
  · rw [if_neg ((crosses_iff a b).1 h), h, Bool.toNat_true]
  · rw [if_pos (not_not.1 (mt (crosses_iff a b).2 h)), Bool.eq_false_iff.2 h, Bool.toNat_false]

theorem branchIf_false (d : Int) (n : Nat) (s : State) : branchIf false d n s = charge n s := rfl

theorem branchIf_true_pc (d : Int) (n : Nat) (s : State) :
    ((branchIf true d n s).pc.toNat : Int) = ((s.pc.toNat : Int) + d) % 65536 :=
  targetRel_toNat d s

theorem branchIf_true_cycles (d : Int) (n : Nat) (s : State) :
    (branchIf true d n s).cycles =
      n + 1 + if (branchIf true d n s).pc.toNat / 256 = s.pc.toNat / 256 then 0 else 1 :=
  congrArg (n + 1 + ·) (crosses_toNat s.pc (targetRel d s))

/-! ### The target of a jump through a pointer -/

/-- The word whose low byte is read at `p` and then its high byte at `next`: what the two pointer reads of a JMP have in
common. -/
def readPointer (p next : Word) (s : State) : Word × State :=
  let l := memRead p s
  let h := memRead next l.2
  (w16 l.1 h.1, h.2)

theorem readPointer_frame (p next : Word) (s : State) :
    Unchanged [.bus] s (readPointer p next s).2 :=
  (memRead_frame _ _).trans (memRead_frame _ _) (by simp) (by simp)

theorem targetInd_eq_readPointer (a : Word) (s : State) :
    targetInd a s =
      readPointer a (if s.params.jmpIndPageWrap then w16 (loByte a + 1) (hiByte a) else a + 1) s := rfl

theorem targetIax_eq_readPointer (a : Word) (s : State) :
    targetIax a s = readPointer (a + s.x.setWidth 16) (a + s.x.setWidth 16 + 1) s := rfl

/-- PC is the word that a read at `p` and then one at `next` give; the bus is as those two reads leave it, and no store
has changed. -/
def JumpedThrough (p next : Word) (s t : State) : Prop :=
  let l := s.bus.read p
  let h := l.2.read next
  t.pc.toNat = l.1.toNat + 256 * h.1.toNat ∧ t.bus = h.2 ∧ SameStores s.bus t.bus

theorem jumpedThrough_readPointer (p next : Word) (s : State) (n : Nat) :
    JumpedThrough p next s (charge n (jumpTo (readPointer p next s))) :=
  ⟨w16_toNat _ _, rfl, (Bus.read_sameStores _ _).trans (Bus.read_sameStores _ _)⟩

/-- A row that jumps through a pointer changes only PC and the bus. -/
theorem Row.RunsBy.simple_jump {r : Row} {p next : State → Word} {effect : State → State → Prop}
    (h : r.RunsBy fun s => jumpTo (readPointer (p s) (next s) s))
    (heffect : ∀ s t, JumpedThrough (p s) (next s) s t → effect s t) :
    r.Simple [.pc, .bus] effect :=
  h.simple (fun s => (readPointer_frame (p s) (next s) s).trans (jumpTo_frame _) (by simp) (by simp))
    fun s _ => heffect s _ (jumpedThrough_readPointer _ _ _ _)

/-! ### The addresses of the pointer's bytes, in numbers -/

theorem add_one_eq_ofNat (a : Word) : a + 1 = BitVec.ofNat 16 (a.toNat + 1) := by
  rw [BitVec.ofNat_add, BitVec.ofNat_toNat, BitVec.setWidth_eq]
  rfl

theorem add_index_eq_ofNat (a : Word) (i : Byte) :
    a + i.setWidth 16 = BitVec.ofNat 16 (a.toNat + i.toNat) :=
  BitVec.eq_of_toNat_eq (add_index_toNat a i)

theorem add_index_succ_eq_ofNat (a : Word) (i : Byte) :
    a + i.setWidth 16 + 1 = BitVec.ofNat 16 (a.toNat + i.toNat + 1) := by
  rw [add_index_eq_ofNat, BitVec.ofNat_add (a.toNat + i.toNat)]
  rfl

/-- The address after `a` in the page of `a` (R141). -/
theorem next_in_page_eq_ofNat (a : Word) :
    w16 (loByte a + 1) (hiByte a) = BitVec.ofNat 16 (a.toNat / 256 * 256 + (a.toNat + 1) % 256) := by
  have := a.isLt
  apply BitVec.eq_of_toNat_eq
  rw [w16_toNat, toNat_add_one, loByte_toNat, hiByte_toNat, BitVec.toNat_ofNat]
  omega

/-! ### The tables of the branches and jumps -/

/-- The row's instruction is the branch by `d` under the condition `taken`, the row's cycles being those of a branch
that is not taken. -/
structure Row.BranchesBy (r : Row) (taken : State → Bool) (d : Int) : Prop extends r.Fits where
  meaning : ∀ s, exec r.i s = .next (branchIf (taken s) d r.cycles s)

theorem branchRows_branchesBy {p : Row × (State → Bool)} {d : Int} (hd : displacementOk d = true)
    (h : p ∈ branchRows d) : p.1.BranchesBy p.2 d := by
  simp only [branchRows, List.mem_cons, List.not_mem_nil, or_false] at h
  rcases h with rfl | rfl | rfl | rfl | rfl | rfl | rfl | rfl
  all_goals exact ⟨⟨rfl, rfl, rfl, hd⟩, fun _ => rfl⟩

theorem braRows_fits {r : Row} {d : Int} (hd : displacementOk d = true) (h : r ∈ braRows d) :
    r.Fits := by
  obtain rfl := List.mem_singleton.1 h
  exact ⟨rfl, rfl, rfl, hd⟩

section
variable {r : Row} {a : Word}

theorem jmpAbsRows_runsBy (h : r ∈ jmpAbsRows a) : r.RunsBy (setPc a) := by
  obtain rfl := List.mem_singleton.1 h
  exact ⟨⟨rfl, rfl, rfl, rfl⟩, fun _ => rfl⟩

theorem jmpIndRows_runsBy (h : r ∈ jmpIndRows a) : r.RunsBy fun s =>
    jumpTo (readPointer a
      (if s.params.jmpIndPageWrap then w16 (loByte a + 1) (hiByte a) else a + 1) s) := by
  obtain rfl := List.mem_singleton.1 h
  exact ⟨⟨rfl, rfl, rfl, rfl⟩, fun s => by rw [← targetInd_eq_readPointer]; rfl⟩

theorem jmpIaxRows_runsBy (h : r ∈ jmpIaxRows a) : r.RunsBy fun s =>
    jumpTo (readPointer (a + s.x.setWidth 16) (a + s.x.setWidth 16 + 1) s) := by
  obtain rfl := List.mem_singleton.1 h
  exact ⟨⟨rfl, rfl, rfl, rfl⟩, fun s => by rw [← targetIax_eq_readPointer]; rfl⟩

end

end Sys2Proof.Claims

namespace Sys2Proof.Proofs

open Sys2Proof.Machine Sys2Proof.Claims

/-- Settles O40: every row is `branchIf` under the row's condition; a branch that is not taken only takes its cycles. -/
theorem conditionalBranches : Obligations.ConditionalBranches := by
  intro d hd p hp
  have h := branchRows_branchesBy hd hp
  refine ⟨h.encoded, fun s => ⟨_, h.meaning s, branchIf_frame _ _ _ _, fun hc => ?_, fun hc => ?_⟩⟩
  · rw [hc, branchIf_false]
    exact ⟨rfl, rfl⟩
  · rw [hc]
    exact ⟨branchIf_true_pc _ _ _, branchIf_true_cycles _ _ _⟩

/-- Settles O41: BRA is a branch that is always taken; JMP (a) and JMP (a,X) are one pointer read
(`Row.RunsBy.simple_jump`), and where the second byte of the former is, `JMP_IND_PAGE_WRAP` says. -/
theorem jumpsLoadPc : Obligations.JumpsLoadPc := by
  refine ⟨fun d hd r hr => ⟨(braRows_fits hd hr).encoded, fun s => ?_⟩,
    fun a => ⟨fun r hr => ?_, fun r hr => ?_, fun r hr => ?_⟩⟩
  · obtain rfl := List.mem_singleton.1 hr
    exact ⟨branchIf true d 2 s, rfl, branchIf_frame _ _ _ _, branchIf_true_pc d 2 s,
      branchIf_true_cycles d 2 s⟩
  · have h := jmpAbsRows_runsBy hr
    exact ⟨h.encoded, h.simple (fun s => setPc_frame a s) fun _ _ => rfl⟩
  · have h := jmpIndRows_runsBy hr
    refine ⟨h.encoded, h.simple_jump (p := fun _ => a) fun s t ht =>
      ⟨fun hwrap => ?_, fun hwrap => ?_⟩⟩
    · rwa [hwrap, if_neg Bool.false_ne_true, add_one_eq_ofNat] at ht
    · rwa [hwrap, if_pos rfl, next_in_page_eq_ofNat] at ht
  · have h := jmpIaxRows_runsBy hr
    refine ⟨h.encoded, h.simple_jump fun s t ht => ?_⟩
    rwa [add_index_succ_eq_ofNat, add_index_eq_ofNat] at ht

end Sys2Proof.Proofs
end

section
/-! PROOFS. The statements of 46_subroutine_brk_rti.md: JSR, RTS, BRK and RTI. What a run of pushes leaves is said once
for any list of bytes (`pushed_pushAll`), what a run of pulls leaves for any count (`afterPulls`), and that the pulls
deliver what the pushes left by `Pushed.stackByte_eq`. -/

namespace Sys2Proof.Machine

open Sys2Proof.Claims

/-! ### The stack cells -/

/-- The cell at SP is the one that lies a whole page above it. -/
theorem stackAddr_toNat_eq_stackCell (sp : Byte) : (stackAddr sp).toNat = stackCell sp 256 := by
  have := sp.isLt
  rw [stackAddr_toNat, stackCell]
  omega

theorem Bus.writeMap_stackAddr (b : Bus) (sp : Byte) :
    b.writeMap (stackAddr sp) = some (.ram, stackCell sp 256) := by
  rw [Bus.writeMap_ram b (stackAddr_ram sp), stackAddr_toNat_eq_stackCell]

/-- The stack byte `k` places above SP, read through the bus. -/
theorem Bus.read_stackCell (b : Bus) (sp : Byte) (k : Nat) :
    b.read (stackAddr (sp + BitVec.ofNat 8 k)) = (b.byteAt .ram (stackCell sp k),
      b.note ⟨.read, BitVec.ofNat 16 (stackCell sp k), b.byteAt .ram (stackCell sp k)⟩) := by
  have haddr : (stackAddr (sp + BitVec.ofNat 8 k)).toNat = stackCell sp k := by
    rw [stackAddr_toNat, BitVec.toNat_add, BitVec.toNat_ofNat, Nat.add_mod_mod, stackCell]
  rw [Bus.read_ram b (stackAddr_ram _), ← haddr, BitVec.ofNat_toNat, BitVec.setWidth_eq]

/-! ### Reading a vector -/

/-- A read of $E000-$FFFF. -/
theorem Bus.read_highByte (b : Bus) {a : Word} (h : 0xE000 ≤ a.toNat) :
    b.read a = (highByte b a.toNat, b.note ⟨.read, a, highByte b a.toNat⟩) := by
  cases hr : b.lcReadRam with
  | true =>
    have hmap : b.readMap a = some (.lch, a.toNat - 0xE000) := by
      rw [Bus.readMap_card (by omega) hr, Bus.cardCell_lch b h]
    simp only [Bus.read_of_map hmap, highByte, hr, if_true]
  | false =>
    rw [Bus.read_of_map (Bus.readMap_highRom (by omega) hr), highByte, hr]
    rfl

/-- The two reads of a vector give its word, and only note themselves. -/
theorem Bus.read_vector (b : Bus) {n : Nat} (hlow : 0xE000 ≤ n) (hhigh : n < 0xFFFF) :
    (b.read (BitVec.ofNat 16 n)).1 = highByte b n ∧
      (b.read (BitVec.ofNat 16 n)).2.read (BitVec.ofNat 16 n + 1) =
        (highByte b (n + 1), vectorBus b n) := by
  have hnext : (BitVec.ofNat 16 n : Word) + 1 = BitVec.ofNat 16 (n + 1) := (BitVec.ofNat_add n 1).symm
  have hread (c : Bus) {a : Nat} (hlow : 0xE000 ≤ a) (hhigh : a ≤ 0xFFFF) :
      c.read (BitVec.ofNat 16 a) =
        (highByte c a, c.note ⟨.read, BitVec.ofNat 16 a, highByte c a⟩) := by
    have ha : (BitVec.ofNat 16 a).toNat = a := Nat.mod_eq_of_lt (by omega)
    simpa only [ha] using Bus.read_highByte c (a := BitVec.ofNat 16 a) (by omega)
  rw [hnext, hread b hlow (by omega), hread _ (a := n + 1) (by omega) hhigh]
  simp [Bus.note, vectorBus, highByte, Bus.byteAt, Bus.store]

end Sys2Proof.Machine

namespace Sys2Proof.Claims

open Sys2Proof.Machine

/-! ### A run of pushes -/

theorem stackCell_sub_one (sp : Byte) {k : Nat} (hk : k < 256) :
    stackCell (sp - 1) (256 - k) = stackCell sp (256 - (k + 1)) := by
  rw [stackCell, stackCell, toNat_sub_one]
  omega

theorem stackCell_ne_top (sp : Byte) {k : Nat} (hk : k + 1 < 256) :
    stackCell sp (256 - (k + 1)) ≠ stackCell sp 256 := by
  rw [stackCell, stackCell]
  omega

/-- The first byte goes to the cell at SP, which no later push reaches; the rest are pushed from the cell below. -/
theorem pushed_pushAll (sp : Byte) {vs : List Byte} (b : Bus) (hvs : vs.length ≤ 256) :
    Pushed sp vs b (pushAll sp vs b) := by
  induction vs generalizing sp b with
  | nil => exact ⟨rfl, fun _ _ hk => absurd hk (by simp), fun _ _ _ => rfl⟩
  | cons v vs ih =>
    rw [List.length_cons] at hvs
    have hmap := Bus.writeMap_stackAddr b sp
    obtain ⟨-, hbytes, hframe⟩ := ih (sp - 1) (b.write (stackAddr sp) v) (by omega)
    refine ⟨rfl, fun k w hk hwf => ?_, fun st i hi => ?_⟩
    · cases k with
      | zero =>
        obtain rfl : v = w := Option.some.inj hk
        rw [pushAll, hframe .ram _ fun j hj he => ?_]
        · exact Bus.write_lands v hmap hwf
        · rw [stackCell_sub_one sp (by omega)] at he
          exact stackCell_ne_top sp (by omega) (congrArg Prod.snd he).symm
      | succ k =>
        have hlen : k < vs.length := Nat.lt_of_succ_lt_succ (List.getElem?_eq_some_iff.1 hk).1
        rw [← stackCell_sub_one sp (by omega)]
        exact hbytes k w hk (Bus.write_wf hwf _ _)
    · calc (pushAll sp (v :: vs) b).byteAt st i
        _ = (b.write (stackAddr sp) v).byteAt st i := hframe st i fun j hj => by
            rw [stackCell_sub_one sp (by omega)]
            exact hi (j + 1) (by simpa using hj)
        _ = b.byteAt st i := Bus.write_sameStoresBut b _ v st i fun hc =>
            hi 0 (by simp) (Option.some.inj (hc.symm.trans hmap))

theorem pushAll_sameCard (sp : Byte) (vs : List Byte) (b : Bus) : SameCard b (pushAll sp vs b) := by
  induction vs generalizing sp b with
  | nil => exact SameCard.refl b
  | cons v vs ih =>
    obtain ⟨-, -, hcard, -⟩ := Bus.write_landing v (Bus.writeMap_stackAddr b sp)
    exact hcard.trans (ih _ _)

/-- Where SP has gone down by the count of the bytes pushed and no store has changed since, the byte pushed `j` from the
end is the `j`th above SP. -/
theorem Pushed.stackByte_eq {sp : Byte} {vs : List Byte} {b c : Bus} {t : State} {j k : Nat} {v : Byte}
    (h : Pushed sp vs b c) (hwf : (b.store .ram).wf = true) (hbus : SameStores c t.bus)
    (hsp : t.sp + BitVec.ofNat 8 vs.length = sp) (hvs : vs.length ≤ 256) (hk : vs[k]? = some v)
    (hjk : j + k = vs.length) : stackByte t j = v := by
  obtain ⟨-, hbytes, -⟩ := h
  have hcell : stackCell t.sp j = stackCell sp (256 - k) := by
    have hklt : k < vs.length := (List.getElem?_eq_some_iff.1 hk).1
    rw [stackCell, stackCell, ← hsp, BitVec.toNat_add, BitVec.toNat_ofNat]
    omega
  rw [stackByte, hbus, hcell]
  exact hbytes k v hk hwf

/-! ### A run of pulls -/

/-- The state after `n` pulls: SP above the bytes pulled, and their reads noted. -/
def afterPulls (n : Nat) (s : State) : State :=
  { s with sp := s.sp + BitVec.ofNat 8 n, bus := pulledBus s n }

theorem afterPulls_zero (s : State) : afterPulls 0 s = s := by
  simp [afterPulls, pulledBus]

theorem afterPulls_sp_toNat (n : Nat) (s : State) :
    (afterPulls n s).sp.toNat = (s.sp.toNat + n) % 256 := by
  simp [afterPulls]

theorem pulledBus_succ (s : State) (n : Nat) :
    (pulledBus s n).note ⟨.read, BitVec.ofNat 16 (stackCell s.sp (n + 1)), stackByte s (n + 1)⟩ =
      pulledBus s (n + 1) := by
  simp [Bus.note, pulledBus, List.range_succ]

/-- A pull is one read, of the cell above SP. -/
theorem pull_of_read {s : State} {v : Byte} {b : Bus}
    (h : s.bus.read (stackAddr (s.sp + 1)) = (v, b)) :
    pull s = (v, { s with sp := s.sp + 1, bus := b }) := by
  simp only [pull, memRead, h]

/-- A pull after `n` pulls takes the next stack byte. -/
theorem pull_afterPulls (n : Nat) (s : State) :
    pull (afterPulls n s) = (stackByte s (n + 1), afterPulls (n + 1) s) := by
  have hsp : (afterPulls n s).sp + 1 = s.sp + BitVec.ofNat 8 (n + 1) := by
    rw [BitVec.ofNat_add, ← BitVec.add_assoc]
    rfl
  have hread : (afterPulls n s).bus.read (stackAddr ((afterPulls n s).sp + 1)) =
      (stackByte s (n + 1), pulledBus s (n + 1)) := by
    rw [hsp, Bus.read_stackCell, ← pulledBus_succ]
    rfl
  rw [pull_of_read hread, hsp]
  rfl

theorem pullWord_afterPulls (n : Nat) (s : State) :
    pullWord (afterPulls n s) =
      (w16 (stackByte s (n + 1)) (stackByte s (n + 2)), afterPulls (n + 2) s) := by
  simp only [pullWord, pull_afterPulls]

/-! ### What returning from a subroutine and from an interrupt pulls -/

theorem returnSubroutine_eq (s : State) :
    returnSubroutine s = setPc (w16 (stackByte s 1) (stackByte s 2) + 1) (afterPulls 2 s) := by
  rw [returnSubroutine, ← afterPulls_zero s, pullWord_afterPulls, afterPulls_zero]

/-- The status byte, then the word above it; unpacking the flags moves neither the stack nor the bus. -/
theorem returnFromInterrupt_eq (s : State) :
    returnFromInterrupt s =
      setPc (w16 (stackByte s 2) (stackByte s 3)) (afterPulls 3 (unpack (stackByte s 1) s)) := by
  have hpull : pull s = (stackByte s 1, afterPulls 1 s) := by
    simpa only [afterPulls_zero] using pull_afterPulls 0 s
  have hunpack : unpack (stackByte s 1) (afterPulls 1 s) = afterPulls 1 (unpack (stackByte s 1) s) := rfl
  rw [returnFromInterrupt, hpull, hunpack, pullWord_afterPulls]
  rfl

/-! ### Taking an interrupt -/

/-- Pushing leaves what a read of $E000-$FFFF gives as it was. -/
theorem highByte_pushAll (sp : Byte) {vs : List Byte} (b : Bus) (hvs : vs.length ≤ 256) (a : Nat) :
    highByte (pushAll sp vs b) a = highByte b a := by
  obtain ⟨-, hread, -, -⟩ := pushAll_sameCard sp vs b
  obtain ⟨-, -, hframe⟩ := pushed_pushAll sp b hvs
  rw [highByte, highByte, hread, hframe .lch _ fun _ _ => by simp, hframe .rom _ fun _ _ => by simp]

/-- The bytes of an interrupt frame, in the order of their pushes (R242, R423). -/
def interruptFrame (ret : Word) (brk : Bool) (s : State) : List Byte :=
  [hiByte ret, loByte ret, pack brk s]

/-- The bus that holds the frame, before the vector is read. -/
def framedBus (ret : Word) (brk : Bool) (s : State) : Bus :=
  pushAll s.sp (interruptFrame ret brk s) s.bus

section
variable (ret : Word) (brk : Bool) (vec : Word) (s : State)

theorem framedBus_pushed : Pushed s.sp (interruptFrame ret brk s) s.bus (framedBus ret brk s) :=
  pushed_pushAll s.sp s.bus (by simp [interruptFrame])

theorem enterInterrupt_bus : (enterInterrupt ret brk vec s).bus =
    (((framedBus ret brk s).read vec).2.read (vec + 1)).2 := by
  simp [enterInterrupt, pack, framedBus, interruptFrame, pushAll]

theorem enterInterrupt_pc : (enterInterrupt ret brk vec s).pc =
    w16 ((framedBus ret brk s).read vec).1 (((framedBus ret brk s).read vec).2.read (vec + 1)).1 := by
  simp [enterInterrupt, memReadWord, memRead, pack, framedBus, interruptFrame, pushAll]

theorem enterInterrupt_sp : (enterInterrupt ret brk vec s).sp = s.sp - 1 - 1 - 1 := by
  simp [enterInterrupt]

theorem enterInterrupt_sameStores :
    SameStores (framedBus ret brk s) (enterInterrupt ret brk vec s).bus := by
  rw [enterInterrupt_bus]
  exact (Bus.read_sameStores _ _).trans (Bus.read_sameStores _ _)

theorem enterInterrupt_flags :
    (enterInterrupt ret brk vec s).flagI = true ∧ (enterInterrupt ret brk vec s).flagD = false ∧
      (enterInterrupt ret brk vec s).flagB = brk := by
  simp [enterInterrupt]

end

/-- Through a vector of $E000-$FFFE the entry is as R242 and R423 say: the pushes reach neither byte of the vector. -/
theorem enterInterrupt_entered (ret : Word) (brk : Bool) {n : Nat} (hlow : 0xE000 ≤ n)
    (hhigh : n < 0xFFFF) (s : State) :
    Entered ret brk n s.bus s (enterInterrupt ret brk (BitVec.ofNat 16 n) s) := by
  obtain ⟨hfirst, hsecond⟩ := Bus.read_vector (framedBus ret brk s) hlow hhigh
  have hbyte (a : Nat) : highByte (framedBus ret brk s) a = highByte s.bus a :=
    highByte_pushAll s.sp s.bus (by simp [interruptFrame]) a
  refine ⟨⟨_, framedBus_pushed ret brk s, ?_⟩, ?_, ?_, enterInterrupt_flags ret brk _ s⟩
  · rw [enterInterrupt_bus, hsecond]
  · simp only [enterInterrupt_sp, toNat_sub_one]
    omega
  · rw [enterInterrupt_pc, hfirst, hsecond, w16_toNat, hbyte, hbyte, highWord]

theorem Entered.charge {ret : Word} {brk : Bool} {n : Nat} {b : Bus} {s t : State}
    (h : Entered ret brk n b s t) (k : Nat) : Entered ret brk n b s (charge k t) := h

/-! ### The way back -/

/-- RTS with a pushed word on the stack. -/
theorem returnSubroutine_of_pushed {w : Word} {sp : Byte} {b : Bus} {t : State}
    (h : Pushed sp [hiByte w, loByte w] b t.bus) (hwf : (b.store .ram).wf = true)
    (hsp : t.sp + BitVec.ofNat 8 2 = sp) :
    (returnSubroutine t).pc = w + 1 ∧ (returnSubroutine t).sp = sp := by
  have hlo : stackByte t 1 = loByte w :=
    h.stackByte_eq (k := 1) hwf (SameStores.refl _) hsp (by simp) rfl rfl
  have hhi : stackByte t 2 = hiByte w :=
    h.stackByte_eq (k := 0) hwf (SameStores.refl _) hsp (by simp) rfl rfl
  rw [returnSubroutine_eq, hlo, hhi, w16_loByte_hiByte]
  exact ⟨rfl, hsp⟩

/-- RTI with an interrupt frame on the stack: to the word pushed, with the six flags that were packed. -/
theorem returnFromInterrupt_of_pushed {ret : Word} {brk : Bool} {s t : State} {c : Bus}
    (h : Pushed s.sp (interruptFrame ret brk s) s.bus c) (hwf : (s.bus.store .ram).wf = true)
    (hbus : SameStores c t.bus) (hsp : t.sp + BitVec.ofNat 8 3 = s.sp) :
    let u := returnFromInterrupt t
    u.pc = ret ∧ u.sp = s.sp ∧ u.flagN = s.flagN ∧ u.flagV = s.flagV ∧ u.flagD = s.flagD ∧
      u.flagI = s.flagI ∧ u.flagZ = s.flagZ ∧ u.flagC = s.flagC := by
  have hlen : (interruptFrame ret brk s).length ≤ 256 := by simp [interruptFrame]
  have hstatus : stackByte t 1 = pack brk s := h.stackByte_eq (k := 2) hwf hbus hsp hlen rfl rfl
  have hlo : stackByte t 2 = loByte ret := h.stackByte_eq (k := 1) hwf hbus hsp hlen rfl rfl
  have hhi : stackByte t 3 = hiByte ret := h.stackByte_eq (k := 0) hwf hbus hsp hlen rfl rfl
  have hflag (f : State → Bool) : f (unpack (pack brk s) s) = f s := congrArg f (unpack_pack brk s)
  rw [returnFromInterrupt_eq, hstatus, hlo, hhi, w16_loByte_hiByte]
  exact ⟨rfl, hsp, hflag State.flagN, hflag State.flagV, hflag State.flagD, hflag State.flagI,
    hflag State.flagZ, hflag State.flagC⟩

/-! ### The tables of the subroutine and interrupt instructions -/

section
variable {r : Row}

theorem jsrRows_runsBy {a : Word} (h : r ∈ jsrRows a) : r.RunsBy (jumpSubroutine a) := by
  obtain rfl := List.mem_singleton.1 h
  exact ⟨⟨rfl, rfl, rfl, rfl⟩, fun _ => rfl⟩

theorem rtsRows_runsBy (h : r ∈ rtsRows) : r.RunsBy returnSubroutine := by
  obtain rfl := List.mem_singleton.1 h
  exact ⟨⟨rfl, rfl, rfl, rfl⟩, fun _ => rfl⟩

theorem rtiRows_runsBy (h : r ∈ rtiRows) : r.RunsBy returnFromInterrupt := by
  obtain rfl := List.mem_singleton.1 h
  exact ⟨⟨rfl, rfl, rfl, rfl⟩, fun _ => rfl⟩

theorem brkRows_fits (h : r ∈ brkRows) : r.Fits := by
  obtain rfl := List.mem_singleton.1 h
  exact ⟨rfl, rfl, rfl, rfl⟩

end

/-! ### The two meanings of BRK, and what JSR and RTS write -/

theorem exec_brk_of_brkHalt {s : State} (h : s.brkHalt = true) :
    exec .brk s = .next (debuggerBrk s) :=
  congrArg _ (if_pos h)

theorem exec_brk_of_not_brkHalt {s : State} (h : s.brkHalt = false) :
    exec .brk s = .next (charge 7 (enterInterrupt (s.pc + 1) true s.params.vecIrq s)) :=
  congrArg _ (if_neg (Bool.eq_false_iff.1 h))

theorem jumpSubroutine_frame (a : Word) (s : State) :
    Unchanged [.pc, .sp, .bus] s (jumpSubroutine a s) :=
  (pushWord_frame _ _).trans (setPc_frame _ _) (by simp) (by simp)

theorem returnSubroutine_frame (s : State) : Unchanged [.pc, .sp, .bus] s (returnSubroutine s) :=
  (pullWord_frame _).trans (setPc_frame _ _) (by simp) (by simp)

theorem jumpSubroutine_sp (a : Word) (s : State) : (jumpSubroutine a s).sp = s.sp - 1 - 1 :=
  pushWord_sp _ _

theorem jumpSubroutine_pushed (a : Word) (s : State) :
    Pushed s.sp [hiByte (s.pc - 1), loByte (s.pc - 1)] s.bus (jumpSubroutine a s).bus :=
  pushed_pushAll s.sp s.bus (by simp)

end Sys2Proof.Claims

namespace Sys2Proof.Proofs

open Sys2Proof.Machine Sys2Proof.Claims

/-- Settles O42: JSR is two pushes (`jumpSubroutine_pushed`) and RTS two pulls (`returnSubroutine_eq`), each then a
write of PC. -/
theorem subroutineCallAndReturn : Obligations.SubroutineCallAndReturn := by
  refine ⟨fun a r hr => ?_, fun r hr => ?_⟩
  · have h := jsrRows_runsBy hr
    refine ⟨h.encoded, h.simple (jumpSubroutine_frame a) fun s _ => ⟨rfl, ?_, jumpSubroutine_pushed a s⟩⟩
    rw [charge_sp, jumpSubroutine_sp, toNat_sub_one, toNat_sub_one]
    omega
  · have h := rtsRows_runsBy hr
    refine ⟨h.encoded, h.simple returnSubroutine_frame fun s _ => ?_⟩
    rw [returnSubroutine_eq]
    refine ⟨?_, afterPulls_sp_toNat 2 s, rfl⟩
    exact (BitVec.toNat_add _ _).trans (by rw [w16_toNat]; rfl)

/-- Settles O43: RTS finds the word that JSR pushed (`returnSubroutine_of_pushed`), wherever PC stands. -/
theorem jsrThenRts : Obligations.JsrThenRts := by
  intro s a q hwf
  have hsp : (jumpSubroutine a s).sp + BitVec.ofNat 8 2 = s.sp := by
    rw [jumpSubroutine_sp]
    bv_omega
  obtain ⟨hpc, hback⟩ := returnSubroutine_of_pushed
    (t := { charge 6 (jumpSubroutine a s) with pc := q }) (jumpSubroutine_pushed a s) hwf hsp
  exact ⟨_, _, rfl, rfl, rfl, hpc.trans (sub_add_cancel s.pc 1), hback⟩

/-- Settles O44: with BRK_HALT clear BRK enters through `VEC_IRQ` like an interrupt (`enterInterrupt_entered`), from the
address after the signature byte. -/
theorem brkEntersHandler : Obligations.BrkEntersHandler := by
  intro r hr
  refine ⟨(brkRows_fits hr).encoded, fun s hhalt hvec => ?_⟩
  obtain rfl := List.mem_singleton.1 hr
  refine ⟨_, exec_brk_of_not_brkHalt hhalt, ?_, rfl, ?_⟩
  · rw [hvec]
    exact (enterInterrupt_entered (s.pc + 1) true (n := 0xFFFE) (by decide) (by decide) s).charge 7
  · exact (enterInterrupt_frame _ _ _ _).trans (charge_frame _ _) (by simp) (by simp)

/-- Settles O46: RTI is three pulls (`returnFromInterrupt_eq`), of the status byte, whose bits are the flags
(`statusByte`), and of PC. -/
theorem rtiRestoresFlagsAndPc : Obligations.RtiRestoresFlagsAndPc := by
  intro r hr
  have h := rtiRows_runsBy hr
  refine ⟨h.encoded, h.simple (fun s => (returnFromInterrupt_frame s).mono (by simp)) fun s _ => ?_⟩
  obtain ⟨-, ⟨hN, hV, hD, hI, hZ, hC, -⟩, -⟩ := statusByte s true (stackByte s 1)
  rw [returnFromInterrupt_eq]
  exact ⟨hN, hV, hD, hI, hZ, hC, w16_toNat _ _, afterPulls_sp_toNat 3 s, rfl⟩

/-- Settles O47: RTI finds the frame that BRK pushed (`returnFromInterrupt_of_pushed`): the reads of the vector change
no store, whatever the vector. -/
theorem brkThenRti : Obligations.BrkThenRti := by
  intro s q hhalt hwf
  have hexec := exec_brk_of_not_brkHalt hhalt
  have hbus := enterInterrupt_sameStores (s.pc + 1) true s.params.vecIrq s
  have hsp : (enterInterrupt (s.pc + 1) true s.params.vecIrq s).sp + BitVec.ofNat 8 3 = s.sp := by
    rw [enterInterrupt_sp]
    bv_omega
  generalize enterInterrupt (s.pc + 1) true s.params.vecIrq s = t at hexec hbus hsp
  exact ⟨_, _, hexec, rfl, returnFromInterrupt_of_pushed (t := { charge 7 t with pc := q })
    (framedBus_pushed (s.pc + 1) true s) hwf hbus hsp⟩

/-- Settles O45: with BRK_HALT set BRK is `debuggerBrk`, which writes PC and how the core stopped, and no more. -/
theorem brkHaltsForDebugger : Obligations.BrkHaltsForDebugger := by
  intro s hhalt
  refine ⟨_, exec_brk_of_brkHalt hhalt, rfl, rfl, rfl, fun hoffset => ?_,
    (debuggerBrk_frame s).mono (by simp)⟩
  change s.pc - 1 + s.params.brkHaltPcOffset = s.pc
  rw [hoffset]
  exact sub_add_cancel s.pc 1

end Sys2Proof.Proofs
end

section
/-! PROOFS. The statements of 47_bit_zero_page.md: RMBn and SMBn, which write one bit of a byte of page zero, and BBRn
and BBSn, which branch on one. -/

namespace Sys2Proof.Claims

open Sys2Proof.Machine

/-! ### One bit of a byte -/

theorem getLsbD_bitMask (n : Nat) {k : Nat} (hk : k < 8) : (bitMask n).getLsbD k = decide (k = n) := by
  have hmask : bitMask n = BitVec.twoPow 8 n := rfl
  rw [hmask, BitVec.getLsbD_twoPow, ← Bool.decide_and, decide_eq_decide]
  omega

theorem getLsbD_rmbByte (n : Nat) (m : Byte) (s : State) {k : Nat} (hk : k < 8) :
    (rmbByte n m s).1.getLsbD k = true ↔ m.getLsbD k = true ∧ k ≠ n := by
  rw [rmbByte, BitVec.getLsbD_and, BitVec.getLsbD_not, getLsbD_bitMask n hk, decide_eq_true hk]
  simp only [Bool.true_and, Bool.and_eq_true, Bool.not_eq_true', decide_eq_false_iff_not]

theorem getLsbD_smbByte (n : Nat) (m : Byte) (s : State) {k : Nat} (hk : k < 8) :
    (smbByte n m s).1.getLsbD k = true ↔ m.getLsbD k = true ∨ k = n := by
  rw [smbByte, BitVec.getLsbD_or, getLsbD_bitMask n hk, Bool.or_eq_true, decide_eq_true_iff]

/-! ### A branch on a byte of page zero -/

theorem insertBeforeLast_concat {α : Type} (x y : α) (pre : List α) :
    insertBeforeLast x (pre ++ [y]) = pre ++ [x, y] := by
  induction pre with
  | nil => rfl
  | cons z zs ih => simp [insertBeforeLast, ih]

/-- The data read delivers the byte of RAM (R146). -/
theorem readZpr_fst (z : Byte) (s : State) : (readZpr z s).1 = s.bus.byteAt .ram z.toNat := by
  simp [readZpr, Bus.readRaw, Bus.readMap_ram s.bus (zeroPage_ram z)]

/-- `t` is `s` after one read of the byte at `z`, which stands before the last access, and a branch by `d` if that byte
is `taken`, `n` being the cycles of a branch that is not (R252, R253). -/
def BranchedOnByte (taken : Byte → Bool) (z : Byte) (d : Int) (n : Nat) (s t : State) : Prop :=
  let m := s.bus.byteAt .ram z.toNat
  t.bus = { s.bus with accesses := t.bus.accesses } ∧
    (∀ pre x, s.bus.accesses = pre ++ [x] →
      t.bus.accesses = pre ++ [⟨.read, BitVec.ofNat 16 z.toNat, m⟩, x]) ∧
    (taken m = false → t.pc = s.pc ∧ t.cycles = n) ∧
    (taken m = true → (t.pc.toNat : Int) = ((s.pc.toNat : Int) + d) % 65536 ∧
      t.cycles = n + 1 + if t.pc.toNat / 256 = s.pc.toNat / 256 then 0 else 1)

theorem branchIf_bus (c : Bool) (d : Int) (n : Nat) (s : State) : (branchIf c d n s).bus = s.bus :=
  branchIf_frame c d n s .bus (by decide)

theorem branchedOnByte_branchIf (taken : Byte → Bool) (z : Byte) (d : Int) (n : Nat) (s : State) :
    BranchedOnByte taken z d n s (branchIf (taken (readZpr z s).1) d n (readZpr z s).2) := by
  refine ⟨?_, ?_, ?_, ?_⟩
  · rw [branchIf_bus, readZpr_bus]
  · intro pre x hpre
    rw [branchIf_bus, readZpr_bus, readZpr_fst, hpre, insertBeforeLast_concat, zeroPage,
      BitVec.ofNat_toNat]
  · intro hm
    rw [readZpr_fst, hm, branchIf_false]
    exact ⟨rfl, rfl⟩
  · intro hm
    rw [readZpr_fst, hm]
    exact ⟨branchIf_true_pc d n _, branchIf_true_cycles d n _⟩

/-- The row's instruction is the branch by `d` if the byte read at `z` is `taken`. -/
structure Row.BranchesOnByte (r : Row) (taken : Byte → Bool) (z : Byte) (d : Int) : Prop
    extends r.Fits where
  meaning : ∀ s, exec r.i s =
    .next (branchIf (taken (readZpr z s).1) d r.cycles (readZpr z s).2)

theorem Row.BranchesOnByte.completes {r : Row} {taken : Byte → Bool} {z : Byte} {d : Int}
    (h : r.BranchesOnByte taken z d) (s : State) : ∃ t, exec r.i s = .next t ∧
      Unchanged [.pc, .cycles, .bus] s t ∧ BranchedOnByte taken z d r.cycles s t :=
  ⟨_, h.meaning s, (readZpr_frame z s).trans (branchIf_frame _ _ _ _) (by simp) (by simp),
    branchedOnByte_branchIf taken z d r.cycles s⟩

/-! ### The tables of the zero-page bit instructions -/

section
variable {p : Row × Nat} {z : Byte} {d : Int}

theorem rmbRows_modifiesBy (h : p ∈ rmbRows z) :
    p.1.opcode.toNat = 0x07 + 0x10 * p.2 ∧ p.1.ModifiesBy (rmbByte p.2) := by
  simp only [rmbRows, List.mem_cons, List.not_mem_nil, or_false] at h
  rcases h with rfl | rfl | rfl | rfl | rfl | rfl | rfl | rfl
  all_goals exact ⟨rfl, ⟨rfl, rfl, rfl, rfl⟩, fun _ => ⟨_, rfl, rfl⟩⟩

theorem smbRows_modifiesBy (h : p ∈ smbRows z) :
    p.1.opcode.toNat = 0x87 + 0x10 * p.2 ∧ p.1.ModifiesBy (smbByte p.2) := by
  simp only [smbRows, List.mem_cons, List.not_mem_nil, or_false] at h
  rcases h with rfl | rfl | rfl | rfl | rfl | rfl | rfl | rfl
  all_goals exact ⟨rfl, ⟨rfl, rfl, rfl, rfl⟩, fun _ => ⟨_, rfl, rfl⟩⟩

theorem bbrRows_branchesOnByte (hd : displacementOk d = true) (h : p ∈ bbrRows z d) :
    p.1.opcode.toNat = 0x0F + 0x10 * p.2 ∧ p.1.BranchesOnByte (fun m => !m.getLsbD p.2) z d := by
  simp only [bbrRows, List.mem_cons, List.not_mem_nil, or_false] at h
  rcases h with rfl | rfl | rfl | rfl | rfl | rfl | rfl | rfl
  all_goals exact ⟨rfl, ⟨rfl, rfl, rfl, hd⟩, fun _ => rfl⟩

theorem bbsRows_branchesOnByte (hd : displacementOk d = true) (h : p ∈ bbsRows z d) :
    p.1.opcode.toNat = 0x8F + 0x10 * p.2 ∧ p.1.BranchesOnByte (fun m => m.getLsbD p.2) z d := by
  simp only [bbsRows, List.mem_cons, List.not_mem_nil, or_false] at h
  rcases h with rfl | rfl | rfl | rfl | rfl | rfl | rfl | rfl
  all_goals exact ⟨rfl, ⟨rfl, rfl, rfl, hd⟩, fun _ => rfl⟩

end

end Sys2Proof.Claims

namespace Sys2Proof.Proofs

open Sys2Proof.Machine Sys2Proof.Claims

/-- Settles O48: every row of a table is one read-modify-write (`Row.ModifiesBy.modifiesMemory`), and the byte it writes
is the byte read but for bit n (`getLsbD_rmbByte`, `getLsbD_smbByte`). -/
theorem resetAndSetMemoryBit : Obligations.ResetAndSetMemoryBit := by
  refine fun z => ⟨fun p hp => ?_, fun p hp => ?_⟩
  · obtain ⟨hop, h⟩ := rmbRows_modifiesBy hp
    exact ⟨hop, h.encoded, h.modifiesMemory (rmbByte_frame p.2) (by decide) (by decide)
      (fun _ m _ hk => getLsbD_rmbByte p.2 m _ hk) fun _ _ _ _ => trivial⟩
  · obtain ⟨hop, h⟩ := smbRows_modifiesBy hp
    exact ⟨hop, h.encoded, h.modifiesMemory (smbByte_frame p.2) (by decide) (by decide)
      (fun _ m _ hk => getLsbD_smbByte p.2 m _ hk) fun _ _ _ _ => trivial⟩

/-- Settles O49: every row is `branchIf` on a bit of the byte of page zero, after its read has been noted before the
last fetch (`Row.BranchesOnByte.completes`). -/
theorem branchOnMemoryBit : Obligations.BranchOnMemoryBit := by
  refine fun z d hd => ⟨fun p hp => ?_, fun p hp => ?_⟩
  · obtain ⟨hop, h⟩ := bbrRows_branchesOnByte hd hp
    exact ⟨hop, h.encoded, h.completes⟩
  · obtain ⟨hop, h⟩ := bbsRows_branchesOnByte hd hp
    exact ⟨hop, h.encoded, h.completes⟩

end Sys2Proof.Proofs
end

section
/-! PROOFS. The statements of 48_transfer_stack_flag_nop.md: the transfers, the stack instructions, the flag
instructions, the NOPs and the unimplemented opcodes. All but the last are one operation on the state and then the row's
cycles (`Row.RunsBy.simple`). -/

namespace Sys2Proof.Claims

open Sys2Proof.Machine

/-! ### Writing one flag -/

theorem readFlag_writeFlag (f : Flag) (v : Bool) (s : State) : readFlag f (writeFlag f v s) = v := by
  cases f <;> rfl

theorem writeFlag_frame (f : Flag) (v : Bool) (s : State) :
    Unchanged [flagField f] s (writeFlag f v s) := by
  intro g hg
  rw [List.mem_singleton] at hg
  cases f <;> cases g <;> first | exact (hg rfl).elim | rfl

/-! ### One pull -/

theorem pull_eq (s : State) : pull s = (stackByte s 1, afterPulls 1 s) := by
  simpa only [afterPulls_zero] using pull_afterPulls 0 s

/-- A row that pulls a byte and uses it by `f`, which leaves SP and the bus alone: SP goes up by one, the one read is
noted, and what is said of `f` may speak of the stack byte. -/
theorem Row.RunsBy.simple_pull {r : Row} {f : Byte × State → State} {but : List Field}
    {effect : Byte → State → Prop} (h : r.RunsBy fun s => f (pull s))
    (frame : ∀ p, Unchanged but p.2 (f p)) (hsp : .sp ∉ but) (hbus : .bus ∉ but)
    (heffect : ∀ p n, effect p.1 (charge n (f p))) :
    r.Simple (but ++ [.sp, .bus]) fun s t =>
      (t.sp.toNat = (s.sp.toNat + 1) % 256 ∧ t.bus = pulledBus s 1) ∧ effect (stackByte s 1) t := by
  refine h.simple (fun s => ?_) fun s n => ?_
  · exact (pull_frame s).trans (frame _) (by simp) (by simp +contextual)
  · rw [pull_eq]
    have hsp' : (f (stackByte s 1, afterPulls 1 s)).sp = (afterPulls 1 s).sp := frame _ .sp hsp
    have hbus' : (f (stackByte s 1, afterPulls 1 s)).bus = pulledBus s 1 := frame _ .bus hbus
    exact ⟨⟨by rw [charge_sp, hsp', afterPulls_sp_toNat], hbus'⟩, heffect (stackByte s 1, afterPulls 1 s) n⟩

/-! ### The two meanings of an unimplemented opcode -/

theorem unimplementedOpcode_of_mem {op : Byte} {s : State} (h : op ∈ s.params.unimplementedOpcodes) :
    unimplementedOpcode op s =
      halt (.unimplementedOpcode op (s.pc - 1)) (setPc (s.pc - 1) (charge 0 s)) :=
  if_pos (List.contains_iff_mem.2 h)

theorem unimplementedOpcode_of_not_mem {op : Byte} {s : State}
    (h : op ∉ s.params.unimplementedOpcodes) : unimplementedOpcode op s = charge 1 s :=
  if_neg (mt List.contains_iff_mem.1 h)

/-! ### The tables -/

section
variable {r : Row} {p : Row × (State → Byte)}

theorem transferToARows_runsBy (h : p ∈ transferToARows) : p.1.RunsBy fun s => loadA (p.2 s, s) := by
  simp only [transferToARows, List.mem_cons, List.not_mem_nil, or_false] at h
  rcases h with rfl | rfl
  all_goals exact ⟨⟨rfl, rfl, rfl, rfl⟩, fun _ => rfl⟩

theorem transferToXRows_runsBy (h : p ∈ transferToXRows) : p.1.RunsBy fun s => loadX (p.2 s, s) := by
  simp only [transferToXRows, List.mem_cons, List.not_mem_nil, or_false] at h
  rcases h with rfl | rfl
  all_goals exact ⟨⟨rfl, rfl, rfl, rfl⟩, fun _ => rfl⟩

theorem tayRows_runsBy (h : r ∈ tayRows) : r.RunsBy fun s => loadY (s.a, s) := by
  obtain rfl := List.mem_singleton.1 h
  exact ⟨⟨rfl, rfl, rfl, rfl⟩, fun _ => rfl⟩

theorem txsRows_runsBy (h : r ∈ txsRows) : r.RunsBy fun s => { s with sp := s.x } := by
  obtain rfl := List.mem_singleton.1 h
  exact ⟨⟨rfl, rfl, rfl, rfl⟩, fun _ => rfl⟩

theorem pushRows_runsBy (h : p ∈ pushRows) : p.1.RunsBy fun s => push (p.2 s) s := by
  simp only [pushRows, List.mem_cons, List.not_mem_nil, or_false] at h
  rcases h with rfl | rfl | rfl | rfl
  all_goals exact ⟨⟨rfl, rfl, rfl, rfl⟩, fun _ => rfl⟩

theorem plaRows_runsBy (h : r ∈ plaRows) : r.RunsBy fun s => loadA (pull s) := by
  obtain rfl := List.mem_singleton.1 h
  exact ⟨⟨rfl, rfl, rfl, rfl⟩, fun _ => rfl⟩

theorem plxRows_runsBy (h : r ∈ plxRows) : r.RunsBy fun s => loadX (pull s) := by
  obtain rfl := List.mem_singleton.1 h
  exact ⟨⟨rfl, rfl, rfl, rfl⟩, fun _ => rfl⟩

theorem plyRows_runsBy (h : r ∈ plyRows) : r.RunsBy fun s => loadY (pull s) := by
  obtain rfl := List.mem_singleton.1 h
  exact ⟨⟨rfl, rfl, rfl, rfl⟩, fun _ => rfl⟩

theorem plpRows_runsBy (h : r ∈ plpRows) : r.RunsBy fun s => unpack (pull s).1 (pull s).2 := by
  obtain rfl := List.mem_singleton.1 h
  exact ⟨⟨rfl, rfl, rfl, rfl⟩, fun _ => rfl⟩

theorem flagRows_runsBy {q : Row × Flag × Bool} (h : q ∈ flagRows) :
    q.1.RunsBy (writeFlag q.2.1 q.2.2) := by
  simp only [flagRows, List.mem_cons, List.not_mem_nil, or_false] at h
  rcases h with rfl | rfl | rfl | rfl | rfl | rfl | rfl
  all_goals exact ⟨⟨rfl, rfl, rfl, rfl⟩, fun _ => rfl⟩

theorem nopRows_runsBy (v z : Byte) (a : Word) : ∀ r ∈ nopRows v z a, r.RunsBy id := by
  unfold nopRows
  repeat refine List.forall_mem_cons.2 ⟨⟨⟨rfl, rfl, rfl, rfl⟩, fun _ => rfl⟩, ?_⟩
  exact List.forall_mem_nil _

theorem unimplementedRows_fits (h : r ∈ unimplementedRows) :
    r.Fits ∧ ∀ s, exec r.i s = .next (unimplementedOpcode r.opcode s) := by
  simp only [unimplementedRows, List.mem_cons, List.not_mem_nil, or_false] at h
  rcases h with rfl | rfl
  all_goals exact ⟨⟨rfl, rfl, rfl, rfl⟩, fun _ => rfl⟩

end

end Sys2Proof.Claims

namespace Sys2Proof.Proofs

open Sys2Proof.Machine Sys2Proof.Claims

/-- Settles O51: each row is one push (`pushed_pushAll`), of a register or of the packed status. -/
theorem pushesStoreAndDecrement : Obligations.PushesStoreAndDecrement := by
  intro p hp
  have h := pushRows_runsBy hp
  exact ⟨h.encoded, h.simple (fun s => (push_frame (p.2 s) s).mono (by simp)) fun s _ =>
    ⟨pushed_pushAll s.sp s.bus (by simp), toNat_sub_one s.sp⟩⟩

/-- Settles O52: each row is one pull (`Row.RunsBy.simple_pull`), then a load of the register or of the flags, which are
the bits of the byte (`statusByte`). -/
theorem pullsIncrementAndLoad : Obligations.PullsIncrementAndLoad := by
  refine ⟨fun r hr => ?_, fun r hr => ?_, fun r hr => ?_, fun r hr => ?_⟩
  · have h := plaRows_runsBy hr
    exact ⟨h.encoded, h.simple_pull (effect := fun v t => t.a = v ∧ NZ t.a t) loadA_frame (by decide)
      (by decide) fun _ _ => ⟨rfl, nz_of_flags rfl rfl⟩⟩
  · have h := plxRows_runsBy hr
    exact ⟨h.encoded, h.simple_pull (effect := fun v t => t.x = v ∧ NZ t.x t) loadX_frame (by decide)
      (by decide) fun _ _ => ⟨rfl, nz_of_flags rfl rfl⟩⟩
  · have h := plyRows_runsBy hr
    exact ⟨h.encoded, h.simple_pull (effect := fun v t => t.y = v ∧ NZ t.y t) loadY_frame (by decide)
      (by decide) fun _ _ => ⟨rfl, nz_of_flags rfl rfl⟩⟩
  · have h := plpRows_runsBy hr
    refine ⟨h.encoded, h.simple_pull (f := fun p => unpack p.1 p.2)
      (effect := fun v t => t.flagN.toNat = v.toNat / 128 ∧ t.flagV.toNat = v.toNat / 64 % 2 ∧
        t.flagD.toNat = v.toNat / 8 % 2 ∧ t.flagI.toNat = v.toNat / 4 % 2 ∧
        t.flagZ.toNat = v.toNat / 2 % 2 ∧ t.flagC.toNat = v.toNat % 2)
      (fun p => unpack_frame p.1 p.2) (by decide) (by decide) fun p _ => ?_⟩
    obtain ⟨-, ⟨hN, hV, hD, hI, hZ, hC, -⟩, -⟩ := statusByte p.2 true p.1
    exact ⟨hN, hV, hD, hI, hZ, hC⟩

/-- Settles O50: every row but TXS is the load of a register with another's value; TXS writes SP alone. -/
theorem transfers : Obligations.Transfers := by
  refine ⟨fun p hp => ?_, fun p hp => ?_, fun r hr => ?_, fun r hr => ?_⟩
  · have h := transferToARows_runsBy hp
    exact ⟨h.encoded, h.simple (fun s => loadA_frame (p.2 s, s))
      fun _ _ => ⟨rfl, nz_of_flags rfl rfl⟩⟩
  · have h := transferToXRows_runsBy hp
    exact ⟨h.encoded, h.simple (fun s => loadX_frame (p.2 s, s))
      fun _ _ => ⟨rfl, nz_of_flags rfl rfl⟩⟩
  · have h := tayRows_runsBy hr
    exact ⟨h.encoded, h.simple (fun s => loadY_frame (s.a, s)) fun _ _ => ⟨rfl, nz_of_flags rfl rfl⟩⟩
  · have h := txsRows_runsBy hr
    exact ⟨h.encoded, h.simple (fun s => setSp_frame s.x s) fun _ _ => rfl⟩

/-- Settles O53: each row writes its flag (`writeFlag`), which the charge of its cycles leaves as written. -/
theorem flagInstructions : Obligations.FlagInstructions := by
  intro p hp
  have h := flagRows_runsBy hp
  refine ⟨h.encoded, h.simple (writeFlag_frame p.2.1 p.2.2) fun s n => ?_⟩
  rw [← readFlag_writeFlag p.2.1 p.2.2 s]
  cases p.2.1 <;> rfl

/-- Settles O54: each row charges its cycles to the state as it is. -/
theorem nopsDoNothing : Obligations.NopsDoNothing := by
  intro v z a r hr
  have h := nopRows_runsBy v z a r hr
  exact ⟨h.encoded, h.simple (Unchanged.refl []) fun _ _ => trivial⟩

/-- Settles O55: `unimplementedOpcode` by whether the configuration lists the byte. -/
theorem unimplementedOpcodesHalt : Obligations.UnimplementedOpcodesHalt := by
  intro r hr
  obtain ⟨hfits, hexec⟩ := unimplementedRows_fits hr
  refine ⟨hfits.encoded, fun s => ⟨_, hexec s, fun hop => ?_, fun hop => ?_⟩⟩
  · have hframe := (unimplementedOpcode_frame r.opcode s).mono (c := [.pc, .run, .stopReason, .cycles])
      (by simp)
    rw [unimplementedOpcode_of_mem hop] at hframe ⊢
    exact ⟨rfl, rfl, rfl, rfl, hframe⟩
  · rw [unimplementedOpcode_of_not_mem hop]
    exact ⟨rfl, charge_frame 1 s⟩

end Sys2Proof.Proofs
end

section
/-! PROOFS. The statements of 60_exceptions.md about one instruction: the bytes that are fetched, what ends an
instruction, and which instructions stop the core. The fetch is a run of bus reads from PC (`fetchInstr_eq`), and its
bytes are the encoding of the instruction they make (`exists_readRun_eq_encode`), so that executing an instruction is
`exec` of it and what ends it (`executeInstruction_of_encode`). -/

namespace Sys2Proof.Machine

open Sys2Proof.Claims

/-! ### The bytes fetched -/

/-- Bytes read from an address on begin with those of a shorter run. -/
theorem readRun_fst_take {m n : Nat} (h : m ≤ n) (b : Bus) (a : Word) :
    (readRun b a m).1 = (readRun b a n).1.take m := by
  induction m generalizing n b a with
  | zero => rfl
  | succ m ih =>
    obtain ⟨n, rfl⟩ : ∃ k, n = k + 1 := ⟨n - 1, by omega⟩
    exact congrArg (_ :: ·) (ih (by omega) _ _)

/-- Whatever stands at an address, its bytes are the encoding of an instruction, whose length the first of them tells
(R100, R110). -/
theorem exists_readRun_eq_encode (b : Bus) (a : Word) :
    ∃ i, WellFormed i ∧ (readRun b a i.length).1 = encode i := by
  let op := b.read a
  let b1 := op.2.read (a + 1)
  let b2 := b1.2.read (a + 1 + 1)
  refine ⟨instrOf op.1 b1.1 b2.1, wellFormed_instrOf _ _ _, ?_⟩
  rw [length_instrOf, encode_instrOf, readRun_fst_take (lengthOf_le op.1)]
  rfl

theorem lengthOf_cases (op : Byte) : lengthOf op = 1 ∨ lengthOf op = 2 ∨ lengthOf op = 3 := by
  rw [lengthOf, Instr.length]
  cases (instrOf op 0 0).operand <;> simp [Operand.length]

/-- The fetch is a run of bus reads from PC, as many as the first byte's row has bytes, with PC moved past them (R130,
R402). -/
theorem fetchInstr_eq {s : State} {n : Nat} (h : lengthOf (s.bus.read s.pc).1 = n) :
    fetchInstr s = ((readRun s.bus s.pc n).1,
      { s with pc := s.pc + BitVec.ofNat 16 n, bus := (readRun s.bus s.pc n).2 }) := by
  have hfetch (s : State) : fetch8 s =
      ((s.bus.read s.pc).1, { s with pc := s.pc + 1, bus := (s.bus.read s.pc).2 }) := rfl
  have hpc2 : s.pc + 1 + 1 = s.pc + BitVec.ofNat 16 2 := BitVec.add_assoc s.pc 1 1
  have hpc3 : s.pc + 1 + 1 + 1 = s.pc + BitVec.ofNat 16 3 := by
    rw [hpc2]
    exact BitVec.add_assoc s.pc 2 1
  subst h
  rcases lengthOf_cases (s.bus.read s.pc).1 with h | h | h
  · simp only [fetchInstr, hfetch, h, readRun]
    rfl
  · simp only [fetchInstr, hfetch, h, readRun, hpc2]
  · simp only [fetchInstr, hfetch, h, readRun, hpc3]

/-! ### Executing one instruction -/

/-- The bus at the start of a step, with the outputs of the last one cleared. -/
def Bus.cleared (b : Bus) : Bus := { b with accesses := [], deviceWrites := [] }

/-- Where the bytes at PC, read one after another, are the encoding of an instruction, that instruction is executed
from the state the reads leave (R402). -/
theorem executeInstruction_of_encode {s : State} {i : Instr} (hw : WellFormed i)
    (h : (readRun s.bus.cleared s.pc i.length).1 = encode i) :
    executeInstruction s = Result.map finishInstruction
      (exec i (fetched s i.length (readRun s.bus.cleared s.pc i.length).2)) := by
  have hop : (s.bus.cleared.read s.pc).1 = i.opcode := by
    rw [Instr.length, ← Operand.length_bytes] at h
    exact (List.cons.inj h).1
  have hfetch : fetchInstr (clearOutputs s) =
      (encode i, fetched s i.length (readRun s.bus.cleared s.pc i.length).2) := by
    rw [fetchInstr_eq (n := i.length), ← h]
    · rfl
    · exact (congrArg lengthOf hop).trans (lengthOf_opcode i)
  have hdecode : decode (encode i) = .ok (i, []) := by
    simpa only [List.append_nil] using decode_encode hw []
  simp only [executeInstruction, hfetch, hdecode]

/-- Every instruction step completes: whatever stands at PC is an instruction, and every instruction completes. -/
theorem executeInstruction_completes (s : State) : ∃ i t,
    (readRun s.bus.cleared s.pc i.length).1 = encode i ∧ WellFormed i ∧
      exec i (fetched s i.length (readRun s.bus.cleared s.pc i.length).2) = .next t ∧
      executeInstruction s = .next (finishInstruction t) := by
  obtain ⟨i, hw, henc⟩ := exists_readRun_eq_encode s.bus.cleared s.pc
  obtain ⟨t, ht, -⟩ := exec_does i (fetched s i.length (readRun s.bus.cleared s.pc i.length).2)
  refine ⟨i, t, henc, hw, ht, ?_⟩
  rw [executeInstruction_of_encode hw henc, ht]
  rfl

/-! ### What an instruction step leaves alone -/

/-- A field that no mnemonic writes is kept by every instruction. -/
theorem exec_same {i : Instr} {s t : State} (h : exec i s = .next t) {f : Field}
    (hf : f ∉ commonWrites) (hw : writers f = []) : f.same s t :=
  exec_frame h f (not_mem_writes hf hw _)

theorem finishInstruction_frame (s : State) :
    Unchanged [.tick, .run, .stopReason] s (finishInstruction s) := by
  simp only [finishInstruction]
  split
  · exact Unchanged.refl _ _
  · split <;> (intro f hf; cases f <;> first | exact (hf (by decide)).elim | rfl)

theorem executeInstruction_singleStep {s t : State} (h : executeInstruction s = .next t) :
    t.singleStep = s.singleStep := by
  obtain ⟨i, u, -, -, hexec, hstep⟩ := executeInstruction_completes s
  obtain rfl : finishInstruction u = t := by simpa using hstep.symm.trans h
  have hu : u.singleStep = s.singleStep := exec_same hexec (f := .singleStep) (by decide) rfl
  have hfinish : (finishInstruction u).singleStep = u.singleStep :=
    finishInstruction_frame u .singleStep (by decide)
  exact hfinish.trans hu

/-! ### The first access that a breakpoint hits -/

theorem Breakpoint.hitBy_iff (b : Breakpoint) (x : BusAccess) : b.hitBy x = true ↔ Hits b x := by
  obtain ⟨address, kind, endAddress⟩ := b
  obtain ⟨dir, addr, value⟩ := x
  cases kind <;> cases dir <;> simp [Breakpoint.hitBy, Breakpoint.contains, Hits]

/-- Accesses that no breakpoint hits are passed over. -/
theorem firstHit_append {bps : List Breakpoint} {pre : List BusAccess}
    (h : ∀ x ∈ pre, ∀ b ∈ bps, ¬ Hits b x) (post : List BusAccess) :
    firstHit bps (pre ++ post) = firstHit bps post := by
  induction pre with
  | nil => rfl
  | cons x pre ih =>
    rw [List.forall_mem_cons] at h
    have hx : (bps.find? fun b => b.hitBy x) = none :=
      List.find?_eq_none.2 fun b hb hhit => h.1 b hb ((b.hitBy_iff x).1 hhit)
    rw [List.cons_append, firstHit, hx]
    exact ih h.2

theorem firstHit_eq_none {bps : List Breakpoint} {xs : List BusAccess}
    (h : ∀ x ∈ xs, ∀ b ∈ bps, ¬ Hits b x) : firstHit bps xs = none := by
  simpa only [List.append_nil, firstHit] using firstHit_append h []

/-- An access that some breakpoint hits is reported with the kind of one that hits it. -/
theorem firstHit_cons {bps : List Breakpoint} {x : BusAccess} (h : ∃ b ∈ bps, Hits b x)
    (xs : List BusAccess) :
    ∃ b ∈ bps, Hits b x ∧ firstHit bps (x :: xs) = some (b.kind, x.addr) := by
  obtain ⟨b, hb, hhit⟩ := h
  obtain ⟨c, hc⟩ := Option.isSome_iff_exists.1
    ((List.find?_isSome (p := (Breakpoint.hitBy · x))).2 ⟨b, hb, (b.hitBy_iff x).2 hhit⟩)
  have hcx : c.hitBy x = true := List.find?_some (p := (Breakpoint.hitBy · x)) hc
  refine ⟨c, List.mem_of_find?_eq_some hc, (c.hitBy_iff x).1 hcx, ?_⟩
  simp only [firstHit, hc]

theorem finishInstruction_stopped {t : State} (h : t.run = .stopped) : finishInstruction t = t := by
  simp only [finishInstruction, h]

theorem finishInstruction_noHit {t : State} (h : t.run = .running)
    (hhit : firstHit t.breakpoints t.bus.accesses = none) :
    finishInstruction t = { t with tick := some t.cycles } := by
  simp only [finishInstruction, h, hhit]

theorem finishInstruction_hit {t : State} {k : BreakKind} {a : Word} (h : t.run = .running)
    (hhit : firstHit t.breakpoints t.bus.accesses = some (k, a)) :
    finishInstruction t = { t with
      tick := some t.cycles
      run := .stopped
      stopReason := .breakpoint k a } := by
  simp only [finishInstruction, h, hhit, halt]

/-! ### Which instructions stop the core -/

/-- The opcode byte fixes the mnemonic (R100). -/
theorem mnemonic_eq_of_opcode {i j : Instr} (h : i.opcode = j.opcode) : i.mnemonic = j.mnemonic :=
  (Proofs.everyOpcodeByteDecodes.2 i j h).1

theorem eq_brk_of_mnemonic {i : Instr} (h : i.mnemonic = .brk) : i = .brk := by
  cases i with
  | brk => rfl
  | _ => cases h

theorem eq_unimplemented_of_mnemonic {i : Instr} (h : i.mnemonic = .unimplemented) :
    i = .unimplementedCB ∨ i = .unimplementedDB := by
  cases i with
  | unimplementedCB => exact .inl rfl
  | unimplementedDB => exact .inr rfl
  | _ => cases h

/-- The instruction stops the core (R412): an unimplemented opcode that is configured so, or BRK in debugger-break
mode. -/
def Halts (i : Instr) (s : State) : Prop :=
  ((i.opcode = 0xCB ∨ i.opcode = 0xDB) ∧ i.opcode ∈ s.params.unimplementedOpcodes) ∨
    (i.opcode = 0x00 ∧ s.brkHalt = true)

/-- The run state after an instruction: Stopped if it halts, else as before, and so is the stop reason. -/
def StopsIffHalts (i : Instr) (s t : State) : Prop :=
  (Halts i s → t.run = .stopped) ∧ (¬ Halts i s → t.run = s.run ∧ t.stopReason = s.stopReason)

theorem brk_stopsIffHalts (s : State) :
    ∃ t, exec .brk s = .next t ∧ StopsIffHalts .brk s t := by
  have hhalts : Halts .brk s ↔ s.brkHalt = true := by simp [Halts, Instr.opcode]
  cases hb : s.brkHalt with
  | true =>
    exact ⟨_, exec_brk_of_brkHalt hb, fun _ => rfl, fun hn => absurd (hhalts.2 hb) hn⟩
  | false =>
    have hframe := enterInterrupt_frame (s.pc + 1) true s.params.vecIrq s
    refine ⟨_, exec_brk_of_not_brkHalt hb, fun hh => ?_, fun _ =>
      ⟨hframe .run (by decide), hframe .stopReason (by decide)⟩⟩
    rw [hhalts, hb] at hh
    cases hh

theorem unimplemented_stopsIffHalts {i : Instr} {op : Byte} {s : State} (hop : i.opcode = op)
    (hrow : op = 0xCB ∨ op = 0xDB) (hexec : exec i s = .next (unimplementedOpcode op s)) :
    ∃ t, exec i s = .next t ∧ StopsIffHalts i s t := by
  have hhalts : Halts i s ↔ op ∈ s.params.unimplementedOpcodes := by
    have hbrk : op ≠ 0x00 := by rcases hrow with rfl | rfl <;> decide
    rw [Halts, hop, and_iff_right hrow]
    exact or_iff_left fun hb => hbrk hb.1
  refine ⟨_, hexec, fun hh => ?_, fun hn => ?_⟩
  · rw [unimplementedOpcode_of_mem (hhalts.1 hh)]
    rfl
  · rw [unimplementedOpcode_of_not_mem (mt hhalts.2 hn)]
    exact ⟨rfl, rfl⟩

/-- Only an instruction that can write the run state halts, since its opcode fixes its mnemonic. -/
theorem mnemonic_mem_writers_run_of_halts {i : Instr} {s : State} (h : Halts i s) :
    i.mnemonic ∈ writers .run := by
  rcases h with ⟨hop | hop, -⟩ | ⟨hop, -⟩
  · exact (mnemonic_eq_of_opcode (j := .unimplementedCB) hop) ▸ by decide
  · exact (mnemonic_eq_of_opcode (j := .unimplementedDB) hop) ▸ by decide
  · exact (mnemonic_eq_of_opcode (j := .brk) hop) ▸ by decide

end Sys2Proof.Machine

namespace Sys2Proof.Proofs

open Sys2Proof.Machine Sys2Proof.Claims

/-- Settles O6: the accesses before the first one hit are passed over (`firstHit_append`), and the first one hit is
reported with the kind of a breakpoint that hits it (`firstHit_cons`). -/
theorem afterAnInstruction : Obligations.AfterAnInstruction := by
  refine fun t => ⟨finishInstruction_stopped, fun hrun => ⟨fun hno => ?_, fun pre post x hx hpre hhit => ?_⟩⟩
  · exact finishInstruction_noHit hrun (firstHit_eq_none hno)
  · obtain ⟨b, hb, hbx, hfirst⟩ := firstHit_cons hhit post
    refine ⟨b, hb, hbx, finishInstruction_hit hrun ?_⟩
    rw [hx, firstHit_append hpre, hfirst]

/-- Settles O8: only BRK, $CB and $DB can write the run state or the stop reason (`writers`), and each of the three
halts exactly as it is configured to. -/
theorem noInstructionTraps : Obligations.NoInstructionTraps := by
  intro i s
  by_cases hi : i.mnemonic ∈ writers .run
  · rcases List.mem_pair.1 hi with hbrk | hun
    · exact eq_brk_of_mnemonic hbrk ▸ brk_stopsIffHalts s
    rcases eq_unimplemented_of_mnemonic hun with rfl | rfl
    · exact unimplemented_stopsIffHalts (op := 0xCB) rfl (.inl rfl) rfl
    · exact unimplemented_stopsIffHalts (op := 0xDB) rfl (.inr rfl) rfl
  · obtain ⟨t, ht, -⟩ := exec_does i s
    refine ⟨t, ht, fun hh => absurd (mnemonic_mem_writers_run_of_halts hh) hi, fun _ => ⟨?_, ?_⟩⟩
    · exact by_contra fun hne => hi (mnemonic_mem_writers ht (f := .run) (by decide) hne)
    · exact by_contra fun hne => hi (mnemonic_mem_writers ht (f := .stopReason) (by decide) hne)

end Sys2Proof.Proofs
end

section
/-! PROOFS. The statements of 60_exceptions.md about a boundary: the order of R401, with one equation of `coreStep` for
each of its six lines; the quiet boundary, whose step is one instruction; and NMI and IRQ. -/

namespace Sys2Proof.Machine

open Sys2Proof.Claims

/-! ### The six lines of R401 -/

theorem and_not_eq_false {p q : Bool} (h : p = false ∨ q = true) : (p && !q) = false := by
  rcases h with rfl | rfl
  · rfl
  · exact Bool.and_false p

theorem pcBreak_iff (s : State) : pcBreak s = true ↔
    ∃ b ∈ s.breakpoints, b.kind = .pc ∧ b.address.toNat ≤ s.pc.toNat ∧
      s.pc.toNat ≤ (b.endAddress.getD b.address).toNat := by
  simp [pcBreak, Breakpoint.contains]

theorem pcBreak_eq_false_iff (s : State) : pcBreak s = false ↔
    ∀ b ∈ s.breakpoints, b.kind = .pc → b.address.toNat ≤ s.pc.toNat →
      (b.endAddress.getD b.address).toNat < s.pc.toNat := by
  rw [Bool.eq_false_iff, ne_eq, pcBreak_iff]
  simp only [not_exists, not_and, not_le]

section
variable {s : State} {irq : Bool}

theorem coreStep_reset (h : s.resetRequest = true) :
    coreStep irq s =
      .next (closeBoundary (resetSequence { clearOutputs s with resetRequest := false })) :=
  if_pos h

variable (hreset : s.resetRequest = false)
include hreset

theorem coreStep_pause (hpause : s.pauseRequest = true) (hsingle : s.singleStep = false) :
    coreStep irq s = .next (closeBoundary (halt .paused s)) := by
  simp [coreStep, hreset, hpause, hsingle]

variable (hpause : s.pauseRequest = false ∨ s.singleStep = true)
include hpause

theorem coreStep_nmi (hnmi : s.nmiPending = true) :
    coreStep irq s =
      .next (closeBoundary (interruptEntry s.params.vecNmi { s with nmiPending := false })) := by
  simp [coreStep, hreset, and_not_eq_false hpause, hnmi]

variable (hnmi : s.nmiPending = false)
include hnmi

theorem coreStep_irq (hirq : irq = true) (hI : s.flagI = false) :
    coreStep irq s = .next (closeBoundary (interruptEntry s.params.vecIrq s)) := by
  simp [coreStep, hreset, and_not_eq_false hpause, hnmi, hirq, hI]

variable (hirq : irq = false ∨ s.flagI = true)
include hirq

theorem coreStep_break (hbreak : pcBreak s = true) (hfirst : s.firstBoundary = false) :
    coreStep irq s = .next (closeBoundary (halt (.breakpoint .pc s.pc) s)) := by
  simp [coreStep, hreset, and_not_eq_false hpause, hnmi, and_not_eq_false hirq, hbreak, hfirst]

theorem coreStep_instruction (hbreak : pcBreak s = false ∨ s.firstBoundary = true) :
    coreStep irq s = Result.map closeBoundary (executeInstruction s) := by
  simp [coreStep, hreset, and_not_eq_false hpause, hnmi, and_not_eq_false hirq,
    and_not_eq_false hbreak]

end

/-- With I = 1 the level of IRQ makes no difference (R421). -/
theorem coreStep_masked {s : State} (h : s.flagI = true) (irq : Bool) :
    coreStep irq s = coreStep false s := by
  simp [coreStep, h]

/-! ### The step at a boundary -/

/-- A step is the coming boundary unless the core is Stopped with no input left. -/
theorem step_eq_atBoundary {s : State} (h : s.run = .running ∨ s.schedule ≠ []) :
    step s = atBoundary s := by
  simp only [step]
  split
  · next hrun hs => exact absurd (h.resolve_left (by simp [hrun])) (by simp [hs])
  · rfl

section
variable {s : State} {e : Boundary} {rest : List Boundary}
  (haux : s.bus.params.auxPresent = false) (hs : s.schedule = e :: rest)
include haux hs

theorem step_running (hrun : (openBoundary e { s with schedule := rest }).run = .running) :
    step s = coreStep e.irqLine (openBoundary e { s with schedule := rest }) := by
  rw [step_eq_atBoundary (.inr (by simp [hs]))]
  simp only [atBoundary, haux, nextBoundary, hs, hrun, Bool.false_eq_true, if_false]

theorem step_stopped (hrun : (openBoundary e { s with schedule := rest }).run = .stopped) :
    step s = .next (openBoundary e { s with schedule := rest }) := by
  rw [step_eq_atBoundary (.inr (by simp [hs]))]
  simp only [atBoundary, haux, nextBoundary, hs, hrun, Bool.false_eq_true, if_false]

end

/-- A Running core with no host command before its boundary. -/
theorem step_opened {s : State} {irq nmi : Bool} {rest : List Boundary}
    (haux : s.bus.params.auxPresent = false) (hrun : s.run = .running)
    (hs : s.schedule = ⟨[], irq, nmi⟩ :: rest) : step s = coreStep irq (opened s rest nmi) :=
  step_running haux hs hrun

theorem closeBoundary_of_running {s : State} (h : s.run = .running) (hs : s.singleStep = false) :
    closeBoundary s = { s with firstBoundary := false } := by
  rw [closeBoundary_running h hs, ← hs]

theorem closeBoundary_of_stopped {s : State} (h : s.run = .stopped) (hs : s.singleStep = false) :
    closeBoundary s = { s with firstBoundary := false, pauseRequest := false } := by
  rw [closeBoundary_stopped h, ← hs]

/-! ### The quiet boundary -/

/-- At a quiet boundary the step is one instruction (R401 line 6). -/
theorem step_of_quiet {s : State} (h : s.Quiet) :
    step s = Result.map closeBoundary (executeInstruction (clearOutputs s)) := by
  obtain ⟨haux, hrun, hs, hreset, hpause, hnmi, hbreak⟩ := h
  have hopen : openBoundary ⟨[], false, false⟩ s = clearOutputs s := by
    simp [openBoundary, latchNmi, hostMoves]
  have hrun' : (clearOutputs s).run = .running := hrun
  calc step s
    _ = coreStep false (clearOutputs s) := by
        rw [step_eq_atBoundary (.inl hrun)]
        simp only [atBoundary, haux, nextBoundary, hs, hopen, hrun', Bool.false_eq_true, if_false]
    _ = _ := coreStep_instruction (s := clearOutputs s) hreset (.inl hpause) hnmi (.inl rfl) hbreak

/-- At a quiet boundary the step runs the instruction whose encoding is read at PC (R402). -/
theorem step_of_quiet_encode {s t : State} {i : Instr} (hq : s.Quiet) (hw : WellFormed i)
    (h : (readRun s.bus.cleared s.pc i.length).1 = encode i)
    (hexec : exec i (fetched s i.length (readRun s.bus.cleared s.pc i.length).2) = .next t) :
    step s = .next (closeBoundary (finishInstruction t)) := by
  rw [step_of_quiet hq, executeInstruction_of_encode (s := clearOutputs s) hw h]
  exact congrArg (fun r => Result.map closeBoundary (Result.map finishInstruction r)) hexec

/-- What stands in readable stores does not depend on the outputs of the step. -/
theorem Bus.peek_setOutputs (b : Bus) (xs : List BusAccess) (ws : List DeviceWrite) (a : Word) :
    ({ b with accesses := xs, deviceWrites := ws } : Bus).peek a = b.peek a := by
  refine congrArg (Option.map · (b.readMap a)) (funext fun c => ?_)
  obtain ⟨st, i⟩ := c
  cases st <;> rfl

theorem Bus.read_of_peek {b : Bus} {a : Word} {v : Byte} (h : b.peek a = some v) :
    b.read a = (v, b.note ⟨.read, a, v⟩) := by
  obtain ⟨c, hc, rfl⟩ := Option.map_eq_some_iff.1 h
  exact Bus.read_of_map hc

/-- The notes of reads of these bytes from an address on. -/
def readNotes (a : Word) (bs : List Byte) : List BusAccess :=
  bs.zipIdx.map fun p => ⟨.read, a + BitVec.ofNat 16 p.2, p.1⟩

theorem readNotes_cons (a : Word) (v : Byte) (bs : List Byte) :
    readNotes a (v :: bs) = ⟨.read, a, v⟩ :: readNotes (a + 1) bs := by
  rw [readNotes, List.zipIdx_cons, List.map_cons, List.zipIdx_succ, List.map_map]
  refine congrArg₂ List.cons (by simp) (List.map_congr_left fun p _ => ?_)
  exact congrArg (BusAccess.mk .read · p.1) (add_ofNat_succ a p.2)

/-- Bytes that stand in readable stores are read one after another, and only noted. -/
theorem readRun_of_peek {b : Bus} {a : Word} {bs : List Byte}
    (h : ∀ k v, bs[k]? = some v → b.peek (a + BitVec.ofNat 16 k) = some v) :
    readRun b a bs.length = (bs, { b with accesses := b.accesses ++ readNotes a bs }) := by
  induction bs generalizing a b with
  | nil => simp [readRun, readNotes]
  | cons v bs ih =>
    have hv : b.peek a = some v := by simpa using h 0 v rfl
    have hrest := ih (b := b.note ⟨.read, a, v⟩) (a := a + 1) fun k w hk => by
      rw [← add_ofNat_succ]
      exact (b.peek_setOutputs _ b.deviceWrites _).trans (h (k + 1) w hk)
    rw [List.length_cons, readRun, Bus.read_of_peek hv, hrest, readNotes_cons]
    simp [Bus.note]

theorem readRun_atPc {i : Instr} {s : State} (h : AtPc i s) :
    readRun s.bus.cleared s.pc i.length = (encode i, { s.bus with
      deviceWrites := []
      accesses := readNotes s.pc (encode i) }) := by
  rw [← length_encode]
  exact readRun_of_peek fun k v hk => (s.bus.peek_setOutputs _ _ _).trans (h k v hk)

/-- An instruction that goes on, with no breakpoint set and no single step asked for: the tick, and the next boundary
is not the first any more. -/
theorem closeBoundary_finishInstruction {t : State} (hrun : t.run = .running)
    (hbp : t.breakpoints = []) (hsingle : t.singleStep = false) :
    closeBoundary (finishInstruction t) = { t with tick := some t.cycles, firstBoundary := false } := by
  have hhit : firstHit t.breakpoints t.bus.accesses = none := firstHit_eq_none (by simp [hbp])
  rw [finishInstruction_noHit hrun hhit]
  exact closeBoundary_of_running hrun hsingle

/-! ### Taking NMI and IRQ -/

theorem clearOutputs_frame (s : State) :
    Unchanged [.penalty, .cycles, .tick, .bus] s (clearOutputs s) := fun f hf => by
  cases f <;> first | exact (hf (by decide)).elim | rfl

theorem setTick_frame (n : Option Nat) (s : State) : Unchanged [.tick] s { s with tick := n } :=
  fun f hf => by cases f <;> first | exact (hf (by decide)).elim | rfl

theorem interruptEntry_frame (vec : Word) (s : State) :
    Unchanged [.bus, .sp, .pc, .flagI, .flagD, .flagB, .cycles, .tick, .penalty] s
      (interruptEntry vec s) := by
  have henter := (clearOutputs_frame s).trans (enterInterrupt_frame s.pc false vec (clearOutputs s))
    (d := [.bus, .sp, .pc, .flagI, .flagD, .flagB, .cycles, .tick, .penalty]) (by simp) (by simp)
  have hcharge := henter.trans (charge_frame 7 _) (fun _ => id) (by simp)
  exact hcharge.trans (setTick_frame _ _) (fun _ => id) (by simp)

/-- `t` is `s` with an interrupt taken through the vector at `n` and the schedule advanced to `rest` (R423). -/
def Interrupted (n : Nat) (rest : List Boundary) (s t : State) : Prop :=
  Entered s.pc false n s.bus.cleared s t ∧ t.nmiPending = false ∧ t.cycles = 7 ∧
    t.tick = some 7 ∧ t.schedule = rest ∧ Unchanged entryFields s t

theorem opened_frame (s : State) (rest : List Boundary) (nmi : Bool) :
    Unchanged [.schedule, .nmiPending, .penalty, .cycles, .tick, .bus] s (opened s rest nmi) :=
  fun f hf => by cases f <;> first | exact (hf (by decide)).elim | rfl

theorem setNmiPending_frame (v : Bool) (s : State) :
    Unchanged [.nmiPending] s { s with nmiPending := v } :=
  fun f hf => by cases f <;> first | exact (hf (by decide)).elim | rfl

theorem setFirstBoundary_frame (v : Bool) (s : State) :
    Unchanged [.firstBoundary] s { s with firstBoundary := v } :=
  fun f hf => by cases f <;> first | exact (hf (by decide)).elim | rfl

/-- At the boundary of a Running core the entry is that of the state before the boundary. -/
theorem interrupted_closeBoundary {s : State} {rest : List Boundary} {nmi : Bool} {n : Nat}
    (hlow : 0xE000 ≤ n) (hhigh : n < 0xFFFF) (hrun : s.run = .running)
    (hsingle : s.singleStep = false) :
    Interrupted n rest s (closeBoundary
      (interruptEntry (BitVec.ofNat 16 n) { opened s rest nmi with nmiPending := false })) := by
  have hopened := (opened_frame s rest nmi).trans (setNmiPending_frame false _) (d := entryFields)
    (by decide) (by decide)
  generalize hq : ({ opened s rest nmi with nmiPending := false } : State) = q at hopened ⊢
  have hframe := interruptEntry_frame (BitVec.ofNat 16 n) q
  have hall := hopened.trans hframe (d := entryFields) (fun _ => id) (by decide)
  have hclose := closeBoundary_of_running ((hall .run (by decide)).trans hrun)
    ((hall .singleStep (by decide)).trans hsingle)
  rw [hclose]
  refine ⟨?_, (hframe .nmiPending (by decide)).trans (by rw [← hq]), rfl, rfl,
    (hframe .schedule (by decide)).trans (by rw [← hq]; rfl),
    hall.trans (setFirstBoundary_frame false _) (fun _ => id) (by decide)⟩
  subst hq
  exact enterInterrupt_entered s.pc false hlow hhigh
    (clearOutputs { opened s rest nmi with nmiPending := false })

end Sys2Proof.Machine

namespace Sys2Proof.Proofs

open Sys2Proof.Machine Sys2Proof.Claims

/-- Settles O7: each clause is the equation of `coreStep` for its line, on the state with the boundary's inputs taken
(`step_opened`). -/
theorem boundaryOrder : Obligations.BoundaryOrder := by
  refine ⟨fun s haux hrun => ?_, fun s irq nmi rest haux hrun hs => ?_⟩
  · rw [step_eq_atBoundary (.inl hrun)]
    exact if_pos haux
  intro q
  rw [step_opened haux hrun hs]
  refine ⟨coreStep_reset (s := q), fun hreset => ⟨fun hpause hsingle => ?_, fun hpause =>
    ⟨coreStep_nmi (s := q) hreset hpause, fun hnmi => ⟨coreStep_irq (s := q) hreset hpause hnmi,
      fun hirq => ⟨fun hbreak => ?_, fun hgo => ?_⟩⟩⟩⟩⟩
  · rw [coreStep_pause (s := q) hreset hpause hsingle]
    exact congrArg _ (closeBoundary_of_stopped (s := halt .paused q) rfl hsingle)
  · exact coreStep_break (s := q) hreset hpause hnmi hirq ((pcBreak_iff q).2 hbreak)
  · exact coreStep_instruction (s := q) hreset hpause hnmi hirq
      (hgo.imp_left (pcBreak_eq_false_iff q).2)

/-- Settles O5: what stands at PC is the encoding of some instruction (`executeInstruction_completes`), and the quiet
step executes it (`step_of_quiet_encode`). -/
theorem everyStepDecodes : Obligations.EveryStepDecodes := by
  intro s hq
  obtain ⟨i, t, henc, hw, hexec, -⟩ := executeInstruction_completes s
  exact ⟨i, t, henc, hw, hexec, step_of_quiet_encode hq hw henc hexec⟩

/-- Settles O4: the bytes at PC are what the fetch reads (`readRun_atPc`), so that the quiet step executes the
instruction they encode; with no breakpoint and no single step only the tick remains. -/
theorem stepRunsDecodedInstruction : Obligations.StepRunsDecodedInstruction := by
  intro s i hq hw hat f
  have hread := readRun_atPc hat
  obtain ⟨t, ht, -⟩ := exec_does i f
  have hstep := step_of_quiet_encode hq hw (congrArg Prod.fst hread) (by rw [hread]; exact ht)
  refine ⟨t, ht, hstep, fun hbp hsingle hrun => ?_⟩
  have hbp' : t.breakpoints = [] := (exec_same ht (f := .breakpoints) (by decide) rfl).trans hbp
  have hsingle' : t.singleStep = false :=
    (exec_same ht (f := .singleStep) (by decide) rfl).trans hsingle
  rw [hstep, closeBoundary_finishInstruction hrun hbp' hsingle']

/-- Settles O56: an NMI that is pending or arrives, and else an unmasked IRQ, is taken through its vector
(`interrupted_closeBoundary`); a masked IRQ makes no difference (`coreStep_masked`). -/
theorem interruptsAtBoundary : Obligations.InterruptsAtBoundary := by
  intro s irq nmi rest hs hvecNmi hvecIrq b entry
  obtain ⟨haux, hrun, hreset, hpause, hsingle, hschedule⟩ := hs
  have hstep := step_opened haux hrun hschedule
  have entered {n : Nat} (hlow : 0xE000 ≤ n) (hhigh : n < 0xFFFF) :=
    interrupted_closeBoundary (rest := rest) (nmi := nmi) hlow hhigh hrun hsingle
  refine ⟨fun hnmi => ⟨_, ?_, entered (n := 0xFFFA) (by decide) (by decide)⟩, fun hnmi =>
    ⟨fun hirq hI => ⟨_, ?_, entered (n := 0xFFFE) (by decide) (by decide)⟩, fun hI => ?_⟩⟩
  · rw [hstep, coreStep_nmi (s := opened s rest nmi) hreset (.inl hpause) hnmi]
    exact congrArg (fun v => Host.Outcome.next (closeBoundary (interruptEntry v _))) hvecNmi
  · have hq : opened s rest nmi = { opened s rest nmi with nmiPending := false } := by
      rw [← hnmi]
      rfl
    rw [hstep, coreStep_irq (s := opened s rest nmi) hreset (.inl hpause) hnmi hirq hI, ← hq]
    exact congrArg (fun v => Host.Outcome.next (closeBoundary (interruptEntry v _))) hvecIrq
  · rw [hstep, coreStep_masked (s := opened s rest nmi) hI]
    exact (step_opened (s := { s with schedule := ⟨[], false, nmi⟩ :: rest }) haux hrun rfl).symm

end Sys2Proof.Proofs
end

section
/-! PROOFS. The statements of 70_reset_and_hazards.md and 10_state.md section 8: the reset sequence at a boundary, the
fixed point at which a program terminates, and the invariant at reset. -/

namespace Sys2Proof.Machine

open Sys2Proof.Claims

/-! ### The reset sequence -/

/-- The bus as the reset sequence leaves it before it reads the vector (R451). -/
def resetBus (s : State) : Bus :=
  { s.bus with
    lcBank2 := true
    lcReadRam := false
    lcPreWrite := false
    lcWriteRam := s.params.resetLcWriteRam.getD (Config.resetLcWriteRam s.draws) }

theorem resetSequence_bus (s : State) : (resetSequence s).bus =
    (((resetBus s).read s.params.vecReset).2.read (s.params.vecReset + 1)).2 := rfl

theorem resetSequence_pc (s : State) : (resetSequence s).pc =
    w16 ((resetBus s).read s.params.vecReset).1
      (((resetBus s).read s.params.vecReset).2.read (s.params.vecReset + 1)).1 := rfl

/-- With the vector of R6 the two vector reads are of ROM, give PC, and only note themselves (R42, R451). -/
theorem resetSequence_vector {s : State} (h : s.params.vecReset = 0xFFFC) :
    (resetSequence s).bus = vectorBus (resetBus s) 0xFFFC ∧
      (resetSequence s).pc.toNat =
        (s.bus.byteAt .rom 0xFFFC).toNat + 256 * (s.bus.byteAt .rom 0xFFFD).toNat := by
  obtain ⟨hfirst, hsecond⟩ := Bus.read_vector (resetBus s) (n := 0xFFFC) (by decide) (by decide)
  rw [resetSequence_bus, resetSequence_pc, h]
  refine ⟨congrArg Prod.snd hsecond, ?_⟩
  rw [w16_toNat]
  exact congrArg₂ (fun l h : Byte => l.toNat + 256 * h.toNat) hfirst (congrArg Prod.fst hsecond)

theorem resetSequence_frame (s : State) :
    Unchanged [.bus, .nmiPending, .flagI, .flagD, .flagB, .sp, .draws, .penalty, .pc] s
      (resetSequence s) :=
  fun f hf => by cases f <;> first | exact (hf (by decide)).elim | rfl

theorem setResetRequest_frame (v : Bool) (s : State) :
    Unchanged [.resetRequest] s { s with resetRequest := v } :=
  fun f hf => by cases f <;> first | exact (hf (by decide)).elim | rfl

theorem hostMove_reset_running {s : State} (h : s.run = .running) :
    hostMove .reset s = { s with resetRequest := true } := by
  simp only [hostMove, h]

/-- The host's `reset` before a boundary of a Running core is performed at that boundary (R432). -/
theorem step_reset_running {s : State} {irq nmi : Bool} {rest : List Boundary}
    (haux : s.bus.params.auxPresent = false) (hrun : s.run = .running)
    (hsingle : s.singleStep = false) (hs : s.schedule = ⟨[.reset], irq, nmi⟩ :: rest) :
    step s = .next { resetSequence { opened s rest nmi with resetRequest := false } with
      firstBoundary := false } := by
  have hopen : openBoundary ⟨[.reset], irq, nmi⟩ { s with schedule := rest } =
      { opened s rest nmi with resetRequest := true } :=
    congrArg (latchNmi nmi)
      (hostMove_reset_running (s := clearOutputs { s with schedule := rest }) hrun)
  rw [step_running haux hs (by rw [hopen]; exact hrun), hopen, coreStep_reset rfl]
  exact congrArg _ (closeBoundary_of_running
    (s := resetSequence { opened s rest nmi with resetRequest := false }) hrun hsingle)

/-! ### A one-instruction loop -/

/-- The instruction `i` stands at `e`, in readable stores, and goes back there in `n` cycles. -/
structure Bus.LoopsBy (b : Bus) (e : Word) (i : Instr) (n : Nat) : Prop where
  wellFormed : WellFormed i
  stands : ∀ k v, (encode i)[k]? = some v → b.peek (e + BitVec.ofNat 16 k) = some v
  meaning : ∀ f : State, f.pc = e + BitVec.ofNat 16 i.length →
    exec i f = .next (charge n (setPc e f))

theorem Bus.SelfLoopAt.loopsBy {b : Bus} {e : Word} (h : b.SelfLoopAt e) : ∃ i n, b.LoopsBy e i n := by
  rcases h with ⟨h0, h1⟩ | ⟨h0, h1, h2⟩
  · refine ⟨.bra (-2), 3 + (crosses (e + 2) e).toNat, by decide, fun k v hv => ?_, fun f hpc => ?_⟩
    · have hcode : encode (.bra (-2)) = [0x80, 0xFE] := by decide
      rw [hcode] at hv
      rcases k with _ | _ | k <;> cases hv
      · exact (BitVec.add_zero e).symm ▸ h0
      · exact h1
    · have htarget : targetRel (-2) f = e := by
        rw [targetRel, hpc, BitVec.add_assoc]
        exact BitVec.add_zero e
      change Host.Outcome.next (branchIf true (-2) 2 f) = _
      simp only [branchIf, htarget, hpc]
      rfl
  · refine ⟨.jmpAbs e, 3, rfl, fun k v hv => ?_, fun f _ => rfl⟩
    rcases k with _ | _ | _ | k <;> cases hv
    · exact (BitVec.add_zero e).symm ▸ h0
    · exact h1
    · exact h2

/-- The state with the outputs of a step that made the accesses `xs` in `n` cycles. -/
def looped (s : State) (n : Nat) (xs : List BusAccess) : State :=
  { s with
    bus := { s.bus with accesses := xs, deviceWrites := [] }
    penalty := false
    cycles := n
    tick := some n
    firstBoundary := false }

/-- Of a step at the loop only its outputs are new. -/
theorem step_of_loopsBy {s : State} {i : Instr} {n : Nat} (h : s.bus.LoopsBy s.pc i n) (hq : s.Quiet)
    (hbp : s.breakpoints = []) (hsingle : s.singleStep = false) :
    step s = .next (looped s n (readNotes s.pc (encode i))) := by
  obtain ⟨t, hexec, -, hstep⟩ := Proofs.stepRunsDecodedInstruction s i hq h.wellFormed h.stands
  obtain ⟨-, hrun, -⟩ := hq
  cases (h.meaning _ rfl).symm.trans hexec
  exact hstep hbp hsingle hrun

theorem looped_frame (s : State) (n : Nat) (xs : List BusAccess) :
    Unchanged [.bus, .cycles, .tick, .penalty, .firstBoundary] s (looped s n xs) :=
  fun f hf => by cases f <;> first | exact (hf (by decide)).elim | rfl

/-- A loop stands where it stood, whatever the outputs. -/
theorem looped_selfLoopAt {s : State} {e : Word} (n : Nat) (xs : List BusAccess)
    (h : s.bus.SelfLoopAt e) : (looped s n xs).bus.SelfLoopAt e := by
  simpa only [Bus.SelfLoopAt, looped, Bus.peek_setOutputs] using h

theorem looped_loopsBy {s : State} {e : Word} {i : Instr} {m : Nat} (n : Nat) (xs : List BusAccess)
    (h : s.bus.LoopsBy e i m) : (looped s n xs).bus.LoopsBy e i m :=
  ⟨h.wellFormed, fun k v hv => (s.bus.peek_setOutputs xs [] _).trans (h.stands k v hv), h.meaning⟩

theorem looped_quiet {s : State} (n : Nat) (xs : List BusAccess) (h : s.Quiet)
    (hbp : s.breakpoints = []) : (looped s n xs).Quiet := by
  obtain ⟨haux, hrun, hs, hreset, hpause, hnmi, -⟩ := h
  exact ⟨haux, hrun, hs, hreset, hpause, hnmi, .inl ((pcBreak_eq_false_iff _).2 (by simp [looped, hbp]))⟩

end Sys2Proof.Machine

namespace Sys2Proof.Proofs

open Sys2Proof.Machine Sys2Proof.Claims

/-- Settles O19: the step is the reset sequence on the state with the boundary's inputs taken (`step_reset_running`),
whose vector reads are of ROM and only note themselves (`resetSequence_vector`). -/
theorem resetSequenceAtBoundary : Obligations.ResetSequenceAtBoundary := by
  intro s irq nmi rest haux hvec hrun hsingle hs
  let q : State := { opened s rest nmi with resetRequest := false }
  let t : State := { resetSequence q with firstBoundary := false }
  have hq := (opened_frame s rest nmi).trans (setResetRequest_frame false _)
    (d := [.bus, .nmiPending, .flagI, .flagD, .flagB, .sp, .draws, .penalty, .pc, .cycles, .tick,
      .resetRequest, .firstBoundary, .schedule]) (by decide) (by decide)
  have hframe := hq.trans (resetSequence_frame q) (fun _ => id) (by decide)
  have hbus : t.bus = vectorBus (resetBus q) 0xFFFC := (resetSequence_vector (s := q) hvec).1
  have hpc := (resetSequence_vector (s := q) hvec).2
  have part {α : Type} (f : Bus → α) : f t.bus = f (vectorBus (resetBus q) 0xFFFC) := congrArg f hbus
  refine ⟨t, step_reset_running haux hrun hsingle hs, ?_⟩
  refine ⟨part Bus.lcBank2, part Bus.lcReadRam, part Bus.lcPreWrite, part Bus.lcWriteRam, rfl, rfl, rfl,
    rfl, rfl, rfl, rfl, hpc, part Bus.accesses, fun st i => ?_, part Bus.readHandlers,
    part Bus.writeHandlers, part Bus.deviceReads, part Bus.deviceWrites, part Bus.params, rfl, rfl, rfl,
    hframe.trans (setFirstBoundary_frame false _) (fun _ => id) (by decide)⟩
  rw [hbus]
  cases st <;> rfl

/-- Settles O58: a step at the loop changes the outputs alone (`step_of_loopsBy`), so that the loop stands there still
and a second step gives the outputs the same values. -/
theorem selfLoopIsAFixedPoint : Obligations.SelfLoopIsAFixedPoint := by
  rintro s _ ⟨rfl, hloop, hstuck⟩ hq hbp hsingle
  obtain ⟨i, n, hi⟩ := hloop.loopsBy
  let t := looped s n (readNotes s.pc (encode i))
  refine ⟨t, step_of_loopsBy hi hq hbp hsingle, ?_, ⟨rfl, looped_selfLoopAt n _ hloop, hstuck⟩,
    fun st k => ?_, SameCard.refl s.bus, rfl, looped_frame s n _⟩
  · exact step_of_loopsBy (s := t) (looped_loopsBy n _ hi) (looped_quiet n _ hq hbp) hbp hsingle
  · cases st <;> rfl

/-- Settles O60: the configuration is that of R6, every store and table is empty, and nothing is pending. -/
theorem resetMeetsInv : Obligations.ResetMeetsInv where
  params := ⟨by decide, .inr rfl, nofun⟩
  bus :=
    { params := ⟨rfl, by decide, by decide, rfl⟩
      stores := fun st => by cases st <;> exact ⟨Memory.wf_nil, nofun⟩
      readHandlers := ⟨List.nodup_nil, nofun⟩
      writeHandlers := ⟨List.nodup_nil, nofun⟩ }
  breakpoints := List.nodup_nil
  stopped := fun _ => ⟨rfl, rfl, rfl, rfl⟩

end Sys2Proof.Proofs
end

section
/-! PROOFS. The statements of 60_exceptions.md section 5 about the host: its commands at a boundary, and its edits
between steps. A command is said once for the boundary it opens (`openBoundary_command`); an edit touches nothing of
what opening a boundary does (`hostMove_opened`). -/

namespace Sys2Proof.Machine

open Sys2Proof.Claims

/-! ### run, pause, reset and step -/

theorem hostMove_pause_running {s : State} (h : s.run = .running) :
    hostMove .pause s = { s with pauseRequest := true } := by
  simp only [hostMove, h]

theorem hostMove_reset_stopped {s : State} (h : s.run = .stopped) :
    hostMove .reset s = resetSequence s := by
  simp only [hostMove, h]

theorem hostMove_step_stopped {s : State} (h : s.run = .stopped) :
    hostMove .step s = { s with run := .running, firstBoundary := true, singleStep := true } := by
  simp only [hostMove, h]

theorem hostMove_run_stopped {s : State} (h : s.run = .stopped) :
    hostMove .run s = { s with run := .running, firstBoundary := true } := by
  simp only [hostMove, h]

/-- The boundary that a command opens: the outputs cleared, the command, then the NMI edge. -/
theorem openBoundary_command {s u : State} {c : HostCommand} (irq nmi : Bool) (rest : List Boundary)
    (h : hostMove c (clearOutputs { s with schedule := rest }) = u) :
    openBoundary ⟨[c], irq, nmi⟩ { s with schedule := rest } = latchNmi nmi u :=
  congrArg (latchNmi nmi) h

/-! ### A single step -/

theorem closeBoundary_frame (s : State) :
    Unchanged [.run, .stopReason, .singleStep, .firstBoundary, .pauseRequest] s (closeBoundary s) := by
  simp only [closeBoundary]
  split
  · exact fun f hf => by cases f <;> first | exact (hf (by decide)).elim | rfl
  · split <;> exact fun f hf => by cases f <;> first | exact (hf (by decide)).elim | rfl

/-- `step s` ends Stopped at the close of the boundary of `u`: Paused, or with the reason for which `u` stopped
(R434). -/
def EndsStopped (s u : State) : Prop :=
  ∃ t, step s = .next t ∧ t = closeBoundary u ∧ t.run = .stopped ∧
    (u.run = .running → t.stopReason = .paused) ∧ (u.run = .stopped → t.stopReason = u.stopReason) ∧
    Unchanged [.run, .stopReason, .singleStep, .firstBoundary, .pauseRequest] u t

theorem endsStopped_of_singleStep {s u : State} (hstep : step s = .next (closeBoundary u))
    (hsingle : u.singleStep = true) : EndsStopped s u := by
  refine ⟨_, hstep, rfl, ?_, fun hrun => ?_, fun hrun => ?_, closeBoundary_frame u⟩
  · cases hrun : u.run with
    | stopped => rw [closeBoundary_stopped hrun, ← hrun]
    | running => rw [closeBoundary_singleStep hrun hsingle]
  · rw [closeBoundary_singleStep hrun hsingle]
  · rw [closeBoundary_stopped hrun]

/-- A Stopped core that is told to step, at its boundary. -/
def stepping (s : State) (rest : List Boundary) (nmi : Bool) : State :=
  { opened s rest nmi with run := .running, firstBoundary := true, singleStep := true }

theorem step_stepping {s : State} {irq nmi : Bool} {rest : List Boundary}
    (haux : s.bus.params.auxPresent = false) (hrun : s.run = .stopped)
    (hs : s.schedule = ⟨[.step], irq, nmi⟩ :: rest) :
    step s = coreStep irq (stepping s rest nmi) := by
  have hopen : openBoundary ⟨[.step], irq, nmi⟩ { s with schedule := rest } = stepping s rest nmi :=
    openBoundary_command irq nmi rest (hostMove_step_stopped hrun)
  rw [step_running haux hs (by rw [hopen]; rfl), hopen]

/-! ### Registers and handlers -/

theorem readReg8_writeReg8 (r : Reg8) (v : Byte) (s : State) : readReg8 r (writeReg8 r v s) = v := by
  cases r <;> rfl

theorem writeReg8_frame (r : Reg8) (v : Byte) (s : State) :
    Unchanged [regField r] s (writeReg8 r v s) := by
  intro g hg
  rw [List.mem_singleton] at hg
  cases r <;> cases g <;> first | exact (hg rfl).elim | rfl

theorem setBrkHalt_frame (v : Bool) (s : State) : Unchanged [.brkHalt] s { s with brkHalt := v } :=
  fun f hf => by cases f <;> first | exact (hf (by decide)).elim | rfl

/-- A half of the dispatch table after a registration: an entry of the card's is not taken (R73). -/
def Bus.registered (b : Bus) (e : Byte) (l : List Byte) : List Byte :=
  if b.isCardEntry e then l else addOnce e l

theorem Bus.mem_registered {b : Bus} (hb : b.params.lcBase = 0xC080) {e e' : Byte} {l : List Byte} :
    e' ∈ b.registered e l ↔ e' ∈ l ∨ (e' = e ∧ (e.toNat < 0x80 ∨ 0x8F < e.toNat)) := by
  have hcard := Bus.isCardEntry_iff hb e
  cases he : b.isCardEntry e with
  | true =>
    have := hcard.1 he
    rw [Bus.registered, he, if_pos rfl]
    exact (or_iff_left fun h => by omega).symm
  | false =>
    have : ¬ (0x80 ≤ e.toNat ∧ e.toNat ≤ 0x8F) := fun h => by simp [he] at hcard; omega
    rw [Bus.registered, he, if_neg Bool.false_ne_true, mem_addOnce]
    exact or_congr_right (and_iff_left (by omega)).symm

theorem hostMove_registerRead (e : Byte) (s : State) : hostMove (.registerRead e) s =
    { s with bus := { s.bus with readHandlers := s.bus.registered e s.bus.readHandlers } } := by
  cases he : s.bus.isCardEntry e <;> simp [hostMove, Bus.registered, he]

theorem hostMove_registerWrite (e : Byte) (s : State) : hostMove (.registerWrite e) s =
    { s with bus := { s.bus with writeHandlers := s.bus.registered e s.bus.writeHandlers } } := by
  cases he : s.bus.isCardEntry e <;> simp [hostMove, Bus.registered, he]

/-! ### An edit before a boundary -/

theorem Bus.poke_cleared (b : Bus) (st : Store) (i : Nat) (v : Byte) :
    b.cleared.poke st i v = (b.poke st i v).cleared := by
  cases st <;> rfl

theorem loadBytes_cleared (bank : Option Store) (a : Word) (data : List Byte) (b : Bus) :
    loadBytes bank a data b.cleared = (loadBytes bank a data b).cleared := by
  induction data generalizing a b with
  | nil => rfl
  | cons v data ih =>
    cases hc : loadCell bank a with
    | none => simp only [loadBytes, hc, ih]
    | some c => simp only [loadBytes, hc, Bus.poke_cleared, ih]

/-- An edit touches neither the outputs of the step nor the inputs of the boundary, so that it may be made before the
boundary opens. -/
theorem hostMove_opened {c : HostCommand} (hc : isEdit c = true) (s : State) (rest : List Boundary)
    (nmi : Bool) : hostMove c (opened s rest nmi) = opened (hostMove c s) rest nmi := by
  cases c with
  | run | pause | reset | step => cases hc
  | load bank a data =>
    exact congrArg (fun b : Bus => ({ opened s rest nmi with bus := b } : State))
      (loadBytes_cleared bank a data s.bus)
  | writeReg r v => cases r <;> rfl
  | writeFlag f v => cases f <;> rfl
  | registerRead e =>
    rw [hostMove_registerRead, hostMove_registerRead]
    rfl
  | registerWrite e =>
    rw [hostMove_registerWrite, hostMove_registerWrite]
    rfl
  | writePc | removeRead | removeWrite | addBreakpoint | removeBreakpoint | clearBreakpoints
    | setBrkHalt => rfl

theorem latchNmi_opened (s : State) (rest : List Boundary) (nmi : Bool) :
    latchNmi nmi (opened s rest false) = opened s rest nmi := by
  simp [latchNmi, opened]

theorem openBoundary_edit {c : HostCommand} (hc : isEdit c = true) (s : State) (irq nmi : Bool)
    (rest : List Boundary) : openBoundary ⟨[c], irq, nmi⟩ { s with schedule := rest } =
      opened (hostMove c s) rest nmi := by
  have hclear : clearOutputs { s with schedule := rest } = opened s rest false := by
    simp [clearOutputs, opened]
  rw [openBoundary_command irq nmi rest (by rw [hclear, hostMove_opened hc]), latchNmi_opened]

theorem hostMove_run_of_isEdit {c : HostCommand} (hc : isEdit c = true) (s : State) :
    (hostMove c s).run = s.run := by
  cases c with
  | run | pause | reset | step => cases hc
  | writeReg r v => cases r <;> rfl
  | writeFlag f v => cases f <;> rfl
  | registerRead e => rw [hostMove_registerRead]
  | registerWrite e => rw [hostMove_registerWrite]
  | load | writePc | removeRead | removeWrite | addBreakpoint | removeBreakpoint | clearBreakpoints
    | setBrkHalt => rfl

/-- No host move changes the configuration (R14). -/
theorem hostMove_configuration (c : HostCommand) (s : State) :
    (hostMove c s).params = s.params ∧ (hostMove c s).bus.params = s.bus.params := by
  cases c with
  | run | pause | step =>
    simp only [hostMove]
    split <;> exact ⟨rfl, rfl⟩
  | reset =>
    simp only [hostMove]
    split
    · exact ⟨rfl, by rw [resetSequence_bus, Bus.read_params, Bus.read_params]; rfl⟩
    · exact ⟨rfl, rfl⟩
  | load bank a data => exact ⟨rfl, loadBytes_params bank a data s.bus⟩
  | writeReg r v => cases r <;> exact ⟨rfl, rfl⟩
  | writeFlag f v => cases f <;> exact ⟨rfl, rfl⟩
  | registerRead e =>
    rw [hostMove_registerRead]
    exact ⟨rfl, rfl⟩
  | registerWrite e =>
    rw [hostMove_registerWrite]
    exact ⟨rfl, rfl⟩
  | writePc | removeRead | removeWrite | addBreakpoint | removeBreakpoint | clearBreakpoints
    | setBrkHalt => exact ⟨rfl, rfl⟩

end Sys2Proof.Machine

namespace Sys2Proof.Proofs

open Sys2Proof.Machine Sys2Proof.Claims

/-- Settles O20: each command opens the boundary with its own request (`openBoundary_command`), and the core's step
there is the first line of R401 that applies. -/
theorem hostCommandsAtBoundary : Obligations.HostCommandsAtBoundary := by
  refine ⟨fun s hrun hs => ?_, fun s irq nmi rest haux hrun hreset hsingle hs => ?_,
    fun s irq nmi rest haux hrun hs => ?_, fun s irq nmi rest haux hrun hs => ?_,
    fun s rest haux hrun hreset hpause hnmi hs => ?_⟩
  · simp only [step, hrun, hs]
  · let q : State := { opened s rest nmi with pauseRequest := true }
    have hopen : openBoundary ⟨[.pause], irq, nmi⟩ { s with schedule := rest } = q :=
      openBoundary_command irq nmi rest (hostMove_pause_running hrun)
    rw [step_running haux hs (by rw [hopen]; exact hrun), hopen, coreStep_pause (s := q) hreset rfl hsingle]
    exact congrArg _ (closeBoundary_of_stopped (s := halt .paused q) rfl hsingle)
  · intro t
    have hopen : openBoundary ⟨[.reset], irq, nmi⟩ { s with schedule := rest } = t :=
      openBoundary_command irq nmi rest (hostMove_reset_stopped hrun)
    have hstopped : t.run = .stopped := hrun
    refine ⟨?_, hstopped, rfl, fun hvec => ?_, rfl, rfl⟩
    · rw [step_stopped haux hs (by rw [hopen]; exact hstopped), hopen]
    · exact (resetSequence_vector (s := opened s rest false) hvec).2
  · intro q endsIn
    have hstep := step_stepping haux hrun hs
    refine ⟨fun hreset => ?_, fun hreset => ⟨fun hnmi => ?_, fun hnmi => ⟨fun hirq hI => ?_, fun hirq => ?_⟩⟩⟩
    · exact endsStopped_of_singleStep (hstep.trans (coreStep_reset hreset)) rfl
    · exact endsStopped_of_singleStep (hstep.trans (coreStep_nmi hreset (.inr rfl) hnmi))
        (interruptEntry_frame _ _ .singleStep (by decide))
    · exact endsStopped_of_singleStep (hstep.trans (coreStep_irq hreset (.inr rfl) hnmi hirq hI))
        (interruptEntry_frame _ _ .singleStep (by decide))
    · have hinstruction := hstep.trans (coreStep_instruction hreset (.inr rfl) hnmi hirq (.inr rfl))
      obtain ⟨-, u, -, -, -, hu⟩ := executeInstruction_completes q
      refine ⟨hinstruction, _, hu, endsStopped_of_singleStep ?_ (executeInstruction_singleStep hu)⟩
      rw [hinstruction]
      exact congrArg (Result.map closeBoundary) hu
  · let q : State := { opened s rest false with run := .running, firstBoundary := true }
    have hopen : openBoundary ⟨[.run], false, false⟩ { s with schedule := rest } = q :=
      openBoundary_command false false rest (hostMove_run_stopped hrun)
    have hnmi' : q.nmiPending = false := by rw [← hnmi]; exact Bool.or_false _
    rw [step_running haux hs (by rw [hopen]), hopen]
    exact coreStep_instruction hreset (.inl hpause) hnmi' (.inl rfl) (.inr rfl)

/-- Settles O21: the writes by their frames, the sets by membership in the list after the move, and the edits before a
boundary by `openBoundary_edit`. -/
theorem hostEditsBetweenSteps : Obligations.HostEditsBetweenSteps := by
  refine ⟨fun s r v => ⟨readReg8_writeReg8 r v s, writeReg8_frame r v s⟩,
    fun s v => ⟨rfl, setPc_frame v s⟩, fun s f v => ⟨readFlag_writeFlag f v s, writeFlag_frame f v s⟩,
    fun s v => ⟨rfl, setBrkHalt_frame v s⟩, fun s e e' hb => ?_,
    fun s e e' => ⟨⟨rfl, mem_takeOut⟩, ⟨rfl, mem_takeOut⟩⟩,
    fun s b b' => ⟨⟨rfl, mem_addOnce⟩, ⟨rfl, mem_takeOut⟩, rfl⟩, fun s c irq nmi rest haux hc => ?_,
    fun s c => hostMove_configuration c s⟩
  · rw [hostMove_registerRead, hostMove_registerWrite]
    exact ⟨⟨rfl, Bus.mem_registered hb⟩, ⟨rfl, Bus.mem_registered hb⟩⟩
  · have hopen := openBoundary_edit hc s irq nmi rest
    have hedit : (opened (hostMove c s) rest nmi).run = s.run := hostMove_run_of_isEdit hc s
    refine ⟨fun hrun hs => ?_, fun hrun hs => ?_⟩
    · rw [step_stopped haux hs (by rw [hopen, hedit, hrun]), hopen, hostMove_opened hc]
    · have haux' : (hostMove c s).bus.params.auxPresent = false := by
        rw [(hostMove_configuration c s).2, haux]
      rw [step_running haux hs (by rw [hopen, hedit, hrun]), hopen]
      exact (step_opened (s := { hostMove c s with schedule := ⟨[], irq, nmi⟩ :: rest }) haux'
        (hedit.trans hrun) rfl).symm

end Sys2Proof.Proofs
end
